-- ==== Sys2Proof/Word.lean ====
section
/-! DEFINITION. The word types: a byte, and the 32-bit words of versions, generations and check registers. -/

namespace Sys2Proof

/-- A byte of a message, an image or a saved copy. -/
abbrev Byte := BitVec 8

/-- A 32-bit number compared without sign: an image version, a generation, a CRC-32 register. -/
abbrev Word32 := BitVec 32

end Sys2Proof
end

