-- ==== Sys2Proof/Syntax.lean ====
section
/-! DEFINITION. The names the commands use, and the commands: one constructor of `Instr` per row of the table of steps. -/

namespace Sys2Proof

/-- R1: the six targets, one for each Target Port. -/
inductive Target where
  | t0 | t1 | t2 | t3 | t4 | t5
  deriving DecidableEq, Repr

/-- R29: the eight positions of the source list. -/
inductive Position where
  | p0 | p1 | p2 | p3 | p4 | p5 | p6 | p7
  deriving DecidableEq, Repr

/-- R90: the four source ports. -/
inductive Port where
  | flash0 | flash1 | card | host
  deriving DecidableEq, Repr

/-- R68: the two fetch channels. -/
inductive Chan where
  | a | b
  deriving DecidableEq, Repr

/-- The commands. Each is one row of the table of steps, whole and indivisible (spec/95).
Operands are what the row's rule takes from outside the part; what the part itself holds is read from State. -/
inductive Instr where
  /-- R156: the reset input asserts. -/
  | resetAssert
  /-- R145: the reset input deasserts; the levels of RATE1 and RATE0 as sampled (R160). -/
  | resetDeassert (rate1 rate0 : Bool)
  /-- R92: the flash device on `p` answers the probe with a capacity in blocks. -/
  | flashProbeAnswer (p : Port) (capacity : Nat)
  /-- R92: 50 ms pass with no answer on `p`. -/
  | flashProbeTimeout (p : Port)
  /-- R147: the start-up read under way returns its 128 bytes. -/
  | startupReadComplete (data : List Byte)
  /-- R147: the device signals an error for the start-up read under way. -/
  | startupReadError
  /-- R147: the timer of the start-up read under way runs out. -/
  | startupReadTimeout
  /-- R95: the card presence input asserts. -/
  | cardInsert
  /-- R95: the card completes its wake, with its capacity in blocks. -/
  | cardWakeComplete (capacity : Nat)
  /-- R95: the card signals a wake error. -/
  | cardWakeError
  /-- R95: 1,000 ms pass from the start of the wake. -/
  | cardWakeTimeout
  /-- R96: the card presence input deasserts. -/
  | cardRemove
  /-- R101: the arbiter of `p` makes a grant. -/
  | grant (p : Port)
  /-- R93, R97: the `n`-th outstanding read of `p` in grant order returns its 128 bytes. -/
  | readComplete (p : Port) (n : Nat) (data : List Byte)
  /-- R93, R97: the device signals an error for the `n`-th outstanding read of `p`. -/
  | readDeviceError (p : Port) (n : Nat)
  /-- R93, R97: the read timer of the `n`-th outstanding read of `p` runs out. -/
  | readTimerExpiry (p : Port) (n : Nat)
  /-- R70: a free channel takes the head of its wait queue. -/
  | channelTake (c : Chan)
  /-- R17: the back-off timer of `t`'s job runs out. -/
  | backoffTimerExpiry (t : Target)
  /-- R80, R129: the last byte of the block on `t`'s lane has been sent; the level of TDONE in that event (R132). -/
  | blockDeliveryComplete (t : Target) (tdone : Bool)
  /-- R129: TRDY of `t` asserts. -/
  | trdyAssert (t : Target)
  /-- R129: TRDY of `t` deasserts; `left` payload bytes of the block are unsent once a byte under way is finished. -/
  | trdyDeassert (t : Target) (left : Nat)
  /-- R130: the ready timer of `t` runs out. -/
  | readyTimerExpiry (t : Target)
  /-- R128: the pulse timer of `t` runs out. -/
  | pulseTimerExpiry (t : Target)
  /-- R133: TDONE of `t` asserts. -/
  | tdoneAssert (t : Target)
  /-- R133: the done timer of `t` runs out. -/
  | doneTimerExpiry (t : Target)
  /-- R134: TFLT of `t` asserts. -/
  | tfltAssert (t : Target)
  /-- R134: TFLT of `t` deasserts. -/
  | tfltDeassert (t : Target)
  /-- R134: a fault left pending by a release is taken. -/
  | faultTake (t : Target)
  /-- R115, R162: byte `b` is the last byte of a good DATA frame. -/
  | dataFrame (b : Byte)
  /-- R118: the host block timer of the wanted entry of `t` for `block` runs out. -/
  | hostBlockTimerExpiry (t : Target) (block : Nat)
  /-- R166, R167: byte `b` is the last byte of a good frame on the request path. -/
  | requestFrame (b : Byte)
  /-- R185: byte `b` is the last byte of a good REPORT ACK frame. -/
  | reportAck (b : Byte)
  /-- R164: byte `b` is a length byte out of 2–242. -/
  | frameLengthDiscard (b : Byte)
  /-- R164: byte `b` is the last byte of a frame whose frame check fails. -/
  | frameCheckDiscard (b : Byte)
  /-- R161: a character with a low stop bit ends before 20 bit times. -/
  | characterFault
  /-- R163: the gap timer runs out. -/
  | gapTimerExpiry
  /-- R174: RXD has been low for 20 bit times. -/
  | lineBreak
  /-- R173: the idle transmitter starts a frame. -/
  | startOfSending
  /-- R173: the last byte of the frame has been sent. -/
  | frameSent
  /-- R184: the resend timer of the IN FLIGHT entry with report sequence `seq` runs out. -/
  | resendTimerExpiry (seq : Byte)
  /-- R175: the handler takes IDENTIFY. -/
  | identify
  /-- R176: the handler takes PART STATUS. -/
  | partStatus
  /-- R31: the handler takes GET SOURCE. -/
  | getSource
  /-- R32, R33: the handler takes SET SOURCE. -/
  | setSource
  /-- R2: the handler takes GET TARGET. -/
  | getTarget
  /-- R3, R4: the handler takes SET TARGET. -/
  | setTarget
  /-- R110: the handler takes GET SETTINGS. -/
  | getSettings
  /-- R111: the handler takes SET SETTINGS. -/
  | setSettings
  /-- R18, R19: the handler takes LOAD. -/
  | load
  /-- R22: the handler takes ABORT. -/
  | abort
  /-- R27: the handler takes JOB STATUS. -/
  | jobStatus
  /-- R138: the handler takes TARGET LINE with action HOLD; the level of TDONE as the port sees it (R137). -/
  | targetLineHold (tdone : Bool)
  /-- R139: the handler takes TARGET LINE with action RELEASE; the level of TDONE as the port sees it. -/
  | targetLineRelease (tdone : Bool)
  /-- R139: the handler takes TARGET LINE with action LEAVE; the level of TDONE as the port sees it. -/
  | targetLineLeave (tdone : Bool)
  /-- R106: the handler takes PEEK. -/
  | peek
  /-- R108, R109: the handler takes RESCAN. -/
  | rescan
  /-- R151: the handler takes SAVE SETUP. -/
  | saveSetup
  /-- R153: the device reports the sector erase done. -/
  | saveEraseDone
  /-- R153: the device signals an error for the erase. -/
  | saveEraseError
  /-- R153: 3,000 ms pass with no erase report. -/
  | saveEraseTimeout
  /-- R153: the device reports the write of the copy block under way done. -/
  | saveWriteDone
  /-- R153: the device signals an error for the block write under way. -/
  | saveWriteError
  /-- R153: 50 ms pass with no report for the block write under way. -/
  | saveWriteTimeout
  /-- R153: the verify read under way returns its 128 bytes. -/
  | saveVerifyReadDone (data : List Byte)
  /-- R153: the device signals an error for the verify read under way. -/
  | saveVerifyReadError
  /-- R153: the 50 ms timer of the verify read under way runs out. -/
  | saveVerifyTimeout
  /-- R156: the handler takes RESTART. -/
  | restart
  /-- R170: the handler takes a request whose kind names no request. -/
  | unknownKind
  /-- R161, R162: a character with a high stop bit, the byte `b`, is handed to the frame receiver. -/
  | byteReceived (b : Byte)
  deriving DecidableEq, Repr

end Sys2Proof
end

