-- ==== Sys2Proof/Decode.lean ====
section
/-! DEFINITION. What a table word spells. The table of steps gives none of its rows any bits, so no word spells a command
(Log 16). -/

namespace Sys2Proof

/-- The command a word of the table spells: no row has bits, so there is none. -/
def decodeTableWord (_nbits _w : Nat) : Option Instr := none

end Sys2Proof
end

