-- ==== Sys2Proof/Machine/Bytes.lean ====
section
/-! DEFINITION. Byte order and byte ranges (R190), and the two check sequences of the part (R66, R67). -/

namespace Sys2Proof.Machine

/-- A number in one byte. -/
def u8 (n : Nat) : Byte := BitVec.ofNat 8 n

/-- R190: a number in `k` bytes, the least significant first. -/
def le : Nat → Nat → List Byte
  | 0, _ => []
  | k + 1, n => u8 n :: le k (n / 256)

/-- R190: the number that little-endian bytes hold. -/
def ofLE : List Byte → Nat
  | [] => 0
  | b :: bs => b.toNat + 256 * ofLE bs

/-- The 32-bit number that little-endian bytes hold. -/
def word (bs : List Byte) : Word32 := BitVec.ofNat 32 (ofLE bs)

/-- The `k` bytes from offset `i`. -/
def bytesAt (bs : List Byte) (i k : Nat) : List Byte := (bs.drop i).take k

/-- The byte at offset `i`, 0 past the end. -/
def byteAt (bs : List Byte) (i : Nat) : Byte := bs.getD i 0#8

/-- R67, step 2 for one bit, the most significant first. -/
def crc16Bit (reg : BitVec 16) (bit : Bool) : BitVec 16 :=
  if reg.msb != bit then (reg <<< 1) ^^^ 0x1021#16 else reg <<< 1

/-- R67, step 2 for one byte. -/
def crc16Byte (reg : BitVec 16) (b : Byte) : BitVec 16 :=
  [7, 6, 5, 4, 3, 2, 1, 0].foldl (fun r i => crc16Bit r (b.getLsbD i)) reg

/-- R67: the CRC-16 of headers and frames. -/
def crc16 (bs : List Byte) : BitVec 16 := bs.foldl crc16Byte 0xFFFF#16

/-- R66, step 2 for one bit, the least significant first. -/
def crc32Bit (reg : Word32) (bit : Bool) : Word32 :=
  if reg.getLsbD 0 != bit then (reg >>> 1) ^^^ 0xEDB88320#32 else reg >>> 1

/-- R66, step 2 for one byte. -/
def crc32Byte (reg : Word32) (b : Byte) : Word32 :=
  [0, 1, 2, 3, 4, 5, 6, 7].foldl (fun r i => crc32Bit r (b.getLsbD i)) reg

/-- R66, step 1: the register at the start. -/
def crc32Init : Word32 := 0xFFFFFFFF#32

/-- R66, step 2: the register advanced over bytes in order. -/
def crc32Over (reg : Word32) (bs : List Byte) : Word32 := bs.foldl crc32Byte reg

/-- R66: the CRC-32 of payloads and saved copies, after the final inversion. -/
def crc32 (bs : List Byte) : Word32 := ~~~ crc32Over crc32Init bs

end Sys2Proof.Machine
end

