-- ==== Sys2Proof/Config.lean ====
section
/-! DEFINITION. The constants the manual fixes for every TL416. The manual leaves no value free, so no constant here is opaque. -/

namespace Sys2Proof.Config

/-- R175: the vendor code of the IDENTIFY reply. -/
def vendorCode : Nat := 0x3A61
/-- R175: the part code of the IDENTIFY reply. -/
def partCode : Nat := 0x0416
/-- R175: the revision of the IDENTIFY reply. -/
def revision : Nat := 1
/-- R54, R74: a block is 128 bytes. -/
def blockBytes : Nat := 128
/-- R54: an image header is 32 bytes. -/
def headerBytes : Nat := 32
/-- R54: the largest payload length. -/
def maxPayload : Nat := 8388576
/-- R92, R95: the largest capacity a port keeps, in blocks. -/
def maxCapacity : Nat := 16777216
/-- R29: the largest block address a base or a PEEK may name. -/
def maxAddress : Nat := 16777215
/-- R30: the first FLASH0 block a source list entry may name. -/
def firstImageBlock : Nat := 64
/-- R163: the gap limit, in ms. -/
def gapMs : Nat := 10
/-- R128: the least length of an assertion of TRST, in ms. -/
def pulseMs : Nat := 1
/-- R184: the resend time of a report, in ms. -/
def resendMs : Nat := 250
/-- R184: the resends after which an expiry enters QUIET. -/
def maxResends : Nat := 3
/-- R181: the reports that may be IN FLIGHT. -/
def window : Nat := 2
/-- R168: the requests the queue holds. -/
def queueDepth : Nat := 4
/-- R169: the replies the cache holds. -/
def cacheDepth : Nat := 4
/-- R167, R170: with this many replies waiting, no replay is appended and no request is taken. -/
def replyRoom : Nat := 4
/-- R48: the entries an attempt log holds. -/
def logDepth : Nat := 16
/-- R165: where a discard count stops. -/
def maxCount : Nat := 65535
/-- R37: where a pass number stops. -/
def maxPass : Nat := 65535
/-- R142: the body length of a saved copy. -/
def bodyBytes : Nat := 187
/-- R142: the blocks of an erase sector of FLASH0. -/
def sectorBlocks : Nat := 32

end Sys2Proof.Config
end

