-- ==== Sys2Proof/Machine/Tables.lean ====
section
/-! DEFINITION. Tables over the fixed index sets of the part: targets, positions, ports and channels. -/

namespace Sys2Proof.Machine

/-- R1: one value for each target. -/
structure PerTarget (α : Type) where
  (t0 t1 t2 t3 t4 t5 : α)
  deriving DecidableEq, Repr

/-- The value of one target. -/
def PerTarget.get {α : Type} (m : PerTarget α) : Target → α
  | .t0 => m.t0
  | .t1 => m.t1
  | .t2 => m.t2
  | .t3 => m.t3
  | .t4 => m.t4
  | .t5 => m.t5

/-- The table with the value of one target replaced. -/
def PerTarget.set {α : Type} (m : PerTarget α) (i : Target) (x : α) : PerTarget α :=
  match i with
  | .t0 => { m with t0 := x }
  | .t1 => { m with t1 := x }
  | .t2 => { m with t2 := x }
  | .t3 => { m with t3 := x }
  | .t4 => { m with t4 := x }
  | .t5 => { m with t5 := x }

/-- The table that holds one value everywhere. -/
def PerTarget.all {α : Type} (x : α) : PerTarget α := ⟨x, x, x, x, x, x⟩

/-- R29: one value for each position of the source list. -/
structure PerPosition (α : Type) where
  (p0 p1 p2 p3 p4 p5 p6 p7 : α)
  deriving DecidableEq, Repr

/-- The value of one position. -/
def PerPosition.get {α : Type} (m : PerPosition α) : Position → α
  | .p0 => m.p0
  | .p1 => m.p1
  | .p2 => m.p2
  | .p3 => m.p3
  | .p4 => m.p4
  | .p5 => m.p5
  | .p6 => m.p6
  | .p7 => m.p7

/-- The table with the value of one position replaced. -/
def PerPosition.set {α : Type} (m : PerPosition α) (i : Position) (x : α) : PerPosition α :=
  match i with
  | .p0 => { m with p0 := x }
  | .p1 => { m with p1 := x }
  | .p2 => { m with p2 := x }
  | .p3 => { m with p3 := x }
  | .p4 => { m with p4 := x }
  | .p5 => { m with p5 := x }
  | .p6 => { m with p6 := x }
  | .p7 => { m with p7 := x }

/-- The table that holds one value everywhere. -/
def PerPosition.all {α : Type} (x : α) : PerPosition α := ⟨x, x, x, x, x, x, x, x⟩

/-- R90: one value for each source port. -/
structure PerPort (α : Type) where
  (flash0 flash1 card host : α)
  deriving DecidableEq, Repr

/-- The value of one port. -/
def PerPort.get {α : Type} (m : PerPort α) : Port → α
  | .flash0 => m.flash0
  | .flash1 => m.flash1
  | .card => m.card
  | .host => m.host

/-- The table with the value of one port replaced. -/
def PerPort.set {α : Type} (m : PerPort α) (i : Port) (x : α) : PerPort α :=
  match i with
  | .flash0 => { m with flash0 := x }
  | .flash1 => { m with flash1 := x }
  | .card => { m with card := x }
  | .host => { m with host := x }

/-- The table that holds one value everywhere. -/
def PerPort.all {α : Type} (x : α) : PerPort α := ⟨x, x, x, x⟩

/-- R68: one value for each fetch channel. -/
structure PerChan (α : Type) where
  (a b : α)
  deriving DecidableEq, Repr

/-- The value of one channel. -/
def PerChan.get {α : Type} (m : PerChan α) : Chan → α
  | .a => m.a
  | .b => m.b

/-- The table with the value of one channel replaced. -/
def PerChan.set {α : Type} (m : PerChan α) (i : Chan) (x : α) : PerChan α :=
  match i with
  | .a => { m with a := x }
  | .b => { m with b := x }

/-- The table that holds one value everywhere. -/
def PerChan.all {α : Type} (x : α) : PerChan α := ⟨x, x⟩

/-- R1: the targets in order, T0 first. -/
def allTargets : List Target := [.t0, .t1, .t2, .t3, .t4, .t5]

/-- R29: the positions in list order, P0 first. -/
def allPositions : List Position := [.p0, .p1, .p2, .p3, .p4, .p5, .p6, .p7]

/-- R190: the number of a target, its code. -/
def targetNum : Target → Nat
  | .t0 => 0 | .t1 => 1 | .t2 => 2 | .t3 => 3 | .t4 => 4 | .t5 => 5

/-- R190: the number of a position, its code and its place in the list order. -/
def positionNum : Position → Nat
  | .p0 => 0 | .p1 => 1 | .p2 => 2 | .p3 => 3 | .p4 => 4 | .p5 => 5 | .p6 => 6 | .p7 => 7

/-- R190: the number of a port, its code. -/
def portNum : Port → Nat
  | .flash0 => 0 | .flash1 => 1 | .card => 2 | .host => 3

end Sys2Proof.Machine
end

