-- ==== Sys2Proof/Machine/State.lean ====
section
/-! DEFINITION. The state of the part as plain data, and its value after power-on reset. -/

namespace Sys2Proof.Machine

/-- A timer (spec/00 4.5): `none` is stopped, `some ms` is running since it was started with `ms` milliseconds.
Its running out is a command (Log 3). -/
abbrev Timer := Option Nat

/-! ### The live setup (spec/01, 02, 05, 08) -/

/-- R1: the kind of a target. -/
inductive Kind where
  | lane | memory
  deriving DecidableEq, Repr

/-- R1: how a target's positions are searched. -/
inductive SearchMode where
  | first | newest
  deriving DecidableEq, Repr

/-- R102: how a port's arbiter decides between the channels. -/
inductive ArbMode where
  | aFirst | bFirst | alternate
  deriving DecidableEq, Repr

/-- R29: an entry of the source list. -/
structure SourceEntry where
  enabled : Bool
  port : Port
  base : Nat
  deriving DecidableEq, Repr

/-- R1: a target record. `candidates` is the candidate set as R190 numbers it: bit n is the mark of Pn. -/
structure TargetRecord where
  present : Bool
  kind : Kind
  imageType : Byte
  cls : Fin 4
  mode : SearchMode
  candidates : Byte
  passLimit : Nat
  backoff : Nat
  maxPayload : Nat
  versionFloor : Word32
  raisePermitted : Bool
  autoStart : Bool
  reload : Bool
  readyTimeout : Nat
  doneTimeout : Nat
  deriving DecidableEq, Repr

/-- R110: the settings. `c0` to `c3` are the class map. -/
structure Settings where
  c0 : Chan
  c1 : Chan
  c2 : Chan
  c3 : Chan
  limits : PerPort Nat
  modes : PerPort ArbMode
  hostTimeout : Nat
  deriving DecidableEq, Repr

/-- R141: the live setup. -/
structure Setup where
  sources : PerPosition SourceEntry
  targets : PerTarget TargetRecord
  settings : Settings
  deriving DecidableEq, Repr

/-- R29: the default source list entry. -/
def SourceEntry.default : SourceEntry := ⟨false, .flash0, Config.firstImageBlock⟩

/-- R1: the default target record. -/
def TargetRecord.default : TargetRecord where
  present := false
  kind := .lane
  imageType := 1#8
  cls := 0
  mode := .first
  candidates := 0#8
  passLimit := 3
  backoff := 10
  maxPayload := Config.maxPayload
  versionFloor := 0#32
  raisePermitted := false
  autoStart := false
  reload := false
  readyTimeout := 50
  doneTimeout := 100

/-- R110: the default settings. -/
def Settings.default : Settings where
  c0 := .a
  c1 := .a
  c2 := .b
  c3 := .b
  limits := ⟨3, 3, 2, 3⟩
  modes := .all .alternate
  hostTimeout := 20

/-- R141: the default live setup. -/
def Setup.default : Setup := ⟨.all .default, .all .default, .default⟩

/-! ### Jobs (spec/01, 02) -/

/-- R5: the condition of a target. -/
inductive Condition where
  | none | loaded | faulted
  deriving DecidableEq, Repr

/-- R7: why a job was created. -/
inductive Origin where
  | start | host | faultReload
  deriving DecidableEq, Repr

/-- R12: the nine job states. -/
inductive JobState where
  | queued | backoff | probing | streaming | finishing | draining | delivered | failed | aborted
  deriving DecidableEq, Repr

/-- R7: the phase of an attempt. -/
inductive Phase where
  | probe | fetch
  deriving DecidableEq, Repr

/-- R49, R50: the outcomes of an attempt. -/
inductive AttemptOutcome where
  | noPort | readError | hostTimeout | badMarker | badHeader | wrongType | badLength | belowFloor
  | changed | streamError | checksum | readyTimeout | doneTimeout | targetFault
  deriving DecidableEq, Repr

/-- R51: the final outcomes of a job. -/
inductive FinalOutcome where
  | delivered | noImage | noSources | aborted
  deriving DecidableEq, Repr

/-- R43: an entry of the candidate list. `header` is the probed header of 32 bytes. -/
structure Candidate where
  position : Position
  version : Word32
  length : Nat
  header : List Byte
  deriving DecidableEq, Repr

/-- R48: an entry of the attempt log. -/
structure LogEntry where
  pass : Nat
  position : Position
  phase : Phase
  outcome : AttemptOutcome
  deriving DecidableEq, Repr

/-- R7: the job record, with the effective candidate set (R10, R34) and the copy of the source entry that the attempt
took at its start (R35). -/
structure Job where
  origin : Origin
  relaxed : Bool
  only : Option Position
  passLimit : Nat
  state : JobState
  pass : Nat
  position : Option Position
  phase : Option Phase
  tag : Byte
  delivered : Nat
  lastOutcome : Option AttemptOutcome
  final : Option FinalOutcome
  abortPending : Bool
  candidates : List Candidate
  log : List LogEntry
  effective : List Position
  entry : Option SourceEntry
  deriving DecidableEq, Repr

/-- R6: the delivered descriptor. -/
structure Descriptor where
  position : Position
  port : Port
  version : Word32
  length : Nat
  check : Word32
  label : List Byte
  deriving DecidableEq, Repr

/-- What the Job Table holds for one target (R5, R6, R7, R17). -/
structure JobSlot where
  condition : Condition
  descriptor : Option Descriptor
  job : Option Job
  backoff : Timer
  deriving DecidableEq, Repr

/-! ### Fetch channels (spec/04) -/

/-- R69: the states of a reorder slot. -/
inductive Slot where
  | free
  | inFlight (block : Nat)
  | held (block : Nat) (data : List Byte)
  | delivering (block : Nat) (data : List Byte)
  deriving DecidableEq, Repr

/-- R72: a waiting claim: one block number on one port. -/
structure Claim where
  port : Port
  block : Nat
  deriving DecidableEq, Repr

/-- R65, R68: the parameters of a stream. -/
structure StreamParams where
  count : Nat
  length : Nat
  check : Word32
  version : Word32
  label : List Byte
  raiseFloor : Bool
  header : List Byte
  deriving DecidableEq, Repr

/-- R68: a fetch channel. `slots` has four entries. -/
structure Channel where
  running : Option Target
  slots : List Slot
  claim : Option Claim
  issue : Nat
  params : Option StreamParams
  check : Option Word32
  deriving DecidableEq, Repr

/-! ### Source ports and the host stream (spec/05, 06) -/

/-- R90, R190: the states of a source port. -/
inductive PortState where
  | absent | probing | ready | writing | empty | waking | faulted
  deriving DecidableEq, Repr

/-- R90: who reads: a channel (the image's block number) or the PEEK path. -/
inductive Reader where
  | chan (c : Chan) (block : Nat)
  | peek
  deriving DecidableEq, Repr

/-- R93, R97: an outstanding read of a device port at one block address. Its read timer runs while it is listed. -/
structure Read where
  reader : Reader
  address : Nat
  deriving DecidableEq, Repr

/-- R90: a source port. `reads` are the outstanding reads in grant order; for HOST they are the wanted set (R105). -/
structure SourcePort where
  state : PortState
  capacity : Nat
  reads : List Read
  lastGrantee : Chan
  deriving DecidableEq, Repr

/-- R112: an entry of the wanted set. -/
structure Wanted where
  target : Target
  tag : Byte
  block : Nat
  timer : Nat
  deriving DecidableEq, Repr

/-! ### Target ports (spec/07) -/

/-- R126: the line state. -/
inductive LineState where
  | asserted | releasing | released
  deriving DecidableEq, Repr

/-- R126: the lane state. -/
inductive LaneState where
  | idle | waitingRelease | waitingReady | sending
  deriving DecidableEq, Repr

/-- R126, R129: the block on the lane: its number, its payload bytes still to be sent, and whether the stream start
before it is still to be sent. -/
structure LaneBlock where
  number : Nat
  left : List Byte
  startOwed : Bool
  deriving DecidableEq, Repr

/-- R126: a Target Port. -/
structure TargetPort where
  line : LineState
  pulse : Timer
  lane : LaneState
  block : Option LaneBlock
  ready : Timer
  done : Timer
  faultPending : Bool
  deriving DecidableEq, Repr

/-! ### The Setup Store (spec/08) -/

/-- R141: the start-up state. -/
inductive Startup where
  | probingPorts | loadingSetup | ready
  deriving DecidableEq, Repr

/-- R141: where the setup came from. -/
inductive SetupOrigin where
  | copyA | copyB | defaults
  deriving DecidableEq, Repr

/-- R141: the reason of the setup origin. -/
inductive OriginReason where
  | none | otherCopyInvalid | noValidCopy | noFlash
  deriving DecidableEq, Repr

/-- R142: the two saved copies. -/
inductive Copy where
  | a | b
  deriving DecidableEq, Repr

/-- R141: the result of the last save. -/
inductive SaveResult where
  | none | ok | saveFailed
  deriving DecidableEq, Repr

/-- R152, R153: how far a save is: its claim on FLASH0 waits, or one of its accesses is under way (`second` names the
second block of the copy). The timer of an access runs while its stage lasts. -/
inductive SaveStage where
  | waiting
  | erasing
  | writing (second : Bool)
  | verifying (second : Bool)
  deriving DecidableEq, Repr

/-- R151: a save in progress. `edited` is the edited-since-snapshot mark (R155). -/
structure Save where
  snapshot : Setup
  target : Copy
  generation : Word32
  edited : Bool
  stage : SaveStage
  deriving DecidableEq, Repr

/-- R141: the Setup Store. `loads` holds the results of the start-up reads so far (R147): the 128 bytes, or `none` for a
failed read. The save state is SAVING exactly while `save` is present. -/
structure SetupStore where
  startup : Startup
  loads : List (Option (List Byte))
  setup : Setup
  origin : SetupOrigin
  reason : OriginReason
  current : Option Copy
  generation : Option Word32
  changed : Bool
  save : Option Save
  lastSave : SaveResult
  deriving DecidableEq, Repr

/-! ### The host link (spec/09) -/

/-- R159: the receiver. `receiving` holds the bytes of the frame under assembly, its sync byte first. -/
inductive Receiver where
  | hunting
  | receiving (got : List Byte)
  deriving DecidableEq, Repr

/-- R167: an accepted request. -/
structure Request where
  seq : Byte
  kind : Byte
  payload : List Byte
  deriving DecidableEq, Repr

/-- R170: the work of a request that completes after its take. A PEEK has an outstanding read or else a waiting claim
on its port (R107). -/
inductive Work where
  | peek (port : Port) (address : Nat)
  | rescan (port : Port)
  | save
  deriving DecidableEq, Repr

/-- R159: the handler state, with the request in service. -/
inductive Handler where
  | idle
  | serving (req : Request) (work : Work)
  | stopped
  deriving DecidableEq, Repr

/-- R169: a cached reply: the sequence of its request and its frame as it was first built. -/
structure CachedReply where
  seq : Byte
  frame : List Byte
  deriving DecidableEq, Repr

/-- R171: a reply frame waiting to be sent. `restart` marks the reply of an accepted RESTART (R156). -/
structure Reply where
  frame : List Byte
  restart : Bool
  deriving DecidableEq, Repr

/-- R173: what the transmitter is sending: the oldest reply, or a report with its sequence. -/
inductive Transmitter where
  | idle
  | reply (frame : List Byte)
  | report (seq : Byte) (frame : List Byte)
  deriving DecidableEq, Repr

/-- R159: the Host Link and the Request Handler. -/
structure Link where
  rate : Fin 4
  receiver : Receiver
  gap : Timer
  lengthDiscards : Nat
  gapDiscards : Nat
  checkDiscards : Nat
  queue : List Request
  handler : Handler
  cache : List CachedReply
  replies : List Reply
  tx : Transmitter
  deriving DecidableEq, Repr

/-! ### Reports (spec/10) -/

/-- R177: a kind of report with its subject. -/
inductive ReportId where
  | part
  | job (t : Target)
  | want (t : Target)
  deriving DecidableEq, Repr

/-- R178: the items of a PART report. -/
structure PartItems where
  startup : Startup
  origin : SetupOrigin
  reason : OriginReason
  current : Option Copy
  generation : Option Word32
  changed : Bool
  saving : Bool
  lastSave : SaveResult
  ports : PerPort (PortState × Nat)
  deriving DecidableEq, Repr

/-- R178: the items of a JOB report. `version` is the delivered version, present when the state is DELIVERED. -/
structure JobItems where
  target : Target
  condition : Condition
  origin : Origin
  state : JobState
  pass : Nat
  position : Option Position
  phase : Option Phase
  lastOutcome : Option AttemptOutcome
  delivered : Nat
  final : Option FinalOutcome
  version : Option Word32
  deriving DecidableEq, Repr

/-- R122, R178: the items of a WANT report, its block numbers ascending. -/
structure WantItems where
  target : Target
  tag : Byte
  blocks : List Nat
  deriving DecidableEq, Repr

/-- R178: the content of a report. -/
inductive Content where
  | part (x : PartItems)
  | job (x : JobItems)
  | want (x : WantItems)
  deriving DecidableEq, Repr

/-- R177: an entry of the Report Queue. `inFlight` is its status. -/
structure Entry where
  id : ReportId
  content : Content
  inFlight : Bool
  seq : Option Byte
  resends : Nat
  timer : Timer
  due : Bool
  deriving DecidableEq, Repr

/-- R177: the Report Queue. -/
structure ReportQueue where
  entries : List Entry
  counter : Byte
  quiet : Bool
  deriving DecidableEq, Repr

/-! ### The whole machine -/

/-- The input pins as their last edge left them (Log 4, Log 6). -/
structure Pins where
  reset : Bool
  card : Bool
  trdy : PerTarget Bool
  tdone : PerTarget Bool
  tflt : PerTarget Bool
  deriving DecidableEq, Repr

/-- The state of the part. `raised` (the reports the event being taken has raised, Log 8) and `pending` (the commands
waiting, first in first out, Log 2) are the model's own. -/
structure State where
  pins : Pins
  link : Link
  reports : ReportQueue
  jobs : PerTarget JobSlot
  queues : PerChan (List Target)
  channels : PerChan Channel
  ports : PerPort SourcePort
  wanted : List Wanted
  lines : PerTarget TargetPort
  store : SetupStore
  raised : List ReportId
  pending : List Instr
  deriving DecidableEq, Repr

/-- Why the machine would stop. The spec names no condition in which the part stops (Log 24). -/
inductive Fault where
  /-- Raised by no meaning; it stands so that the type has a value. Safe. -/
  | neverRaised
  deriving DecidableEq, Repr

/-- Why a command has no meaning. -/
inductive Refusal where
  /-- Raised by `exec`'s arm of a command that has no meaning yet; no arm raises it now. Safe: the run stops. -/
  | notModelled (mnemonic : String)
  deriving DecidableEq, Repr

/-! ### Values after power-on reset -/

/-- R68: a channel after power-on reset or RESTART. -/
def Channel.reset : Channel := ⟨none, [.free, .free, .free, .free], none, 0, none, none⟩

/-- R90: the source ports after power-on reset or RESTART. -/
def resetPorts : PerPort SourcePort :=
  ⟨⟨.absent, 0, [], .a⟩, ⟨.absent, 0, [], .a⟩, ⟨.empty, 0, [], .a⟩, ⟨.ready, 0, [], .a⟩⟩

/-- R126: a Target Port after power-on reset or RESTART. -/
def TargetPort.reset : TargetPort := ⟨.asserted, some Config.pulseMs, .idle, none, none, none, false⟩

/-- R5, R6, R11: the Job Table's entry of a target after power-on reset or RESTART. -/
def JobSlot.reset : JobSlot := ⟨.none, none, none, none⟩

/-- R141: the Setup Store after power-on reset or RESTART. -/
def SetupStore.reset : SetupStore where
  startup := .probingPorts
  loads := []
  setup := .default
  origin := .defaults
  reason := .none
  current := none
  generation := none
  changed := false
  save := none
  lastSave := .none

/-- R159: the Host Link after RESTART, which keeps the line rate. -/
def Link.reset (rate : Fin 4) : Link where
  rate := rate
  receiver := .hunting
  gap := none
  lengthDiscards := 0
  gapDiscards := 0
  checkDiscards := 0
  queue := []
  handler := .idle
  cache := []
  replies := []
  tx := .idle

/-- R177: the Report Queue after power-on reset or RESTART. -/
def ReportQueue.reset : ReportQueue := ⟨[], 0#8, false⟩

/-- The input pins at power-on: the reset input held, every other input deasserted (DESIGN CHOICE, Log 6). -/
def Pins.reset0 : Pins := ⟨true, false, .all false, .all false, .all false⟩

/-- The part while the reset input is held after power-on (R145): every block at its value after power-on reset. The
rate code stands at 0 until the straps are sampled (DESIGN CHOICE, Log 7). -/
def State.reset : State where
  pins := .reset0
  link := .reset 0
  reports := .reset
  jobs := .all .reset
  queues := .all []
  channels := .all .reset
  ports := resetPorts
  wanted := []
  lines := .all .reset
  store := .reset
  raised := []
  pending := []

end Sys2Proof.Machine
end

