-- ==== Sys2Proof/Machine/Operands.lean ====
section
/-! DEFINITION. The codes of R190 and the records that requests and the saved copy share (R193), in both directions. -/

namespace Sys2Proof.Machine

/-! ### Codes (R190) -/

/-- R190: a yes/no mark or an input level. -/
def markCode (b : Bool) : Byte := if b then 1#8 else 0#8

/-- R192: a mark is out of range if its code is neither of its two. -/
def markOf (b : Byte) : Option Bool :=
  if b = 0#8 then some false else if b = 1#8 then some true else none

/-- R190: the code of a target kind. -/
def kindCode : Kind → Byte
  | .lane => 1#8 | .memory => 2#8

/-- The kind of a code. -/
def kindOf (b : Byte) : Option Kind :=
  if b = 1#8 then some .lane else if b = 2#8 then some .memory else none

/-- R190: the code of a search mode. -/
def searchCode : SearchMode → Byte
  | .first => 0#8 | .newest => 1#8

/-- The search mode of a code. -/
def searchOf (b : Byte) : Option SearchMode :=
  if b = 0#8 then some .first else if b = 1#8 then some .newest else none

/-- R190: the code of a port. -/
def portCode (p : Port) : Byte := u8 (portNum p)

/-- The port of a code. -/
def portOf (b : Byte) : Option Port :=
  if b = 0#8 then some .flash0 else if b = 1#8 then some .flash1
  else if b = 2#8 then some .card else if b = 3#8 then some .host else none

/-- R190: the code of a channel. -/
def chanCode : Chan → Byte
  | .a => 0#8 | .b => 1#8

/-- The channel of a code. -/
def chanOf (b : Byte) : Option Chan :=
  if b = 0#8 then some .a else if b = 1#8 then some .b else none

/-- R190: the code of an arbitration mode. -/
def modeCode : ArbMode → Byte
  | .aFirst => 0#8 | .bFirst => 1#8 | .alternate => 2#8

/-- The arbitration mode of a code. -/
def modeOf (b : Byte) : Option ArbMode :=
  if b = 0#8 then some .aFirst else if b = 1#8 then some .bFirst else if b = 2#8 then some .alternate else none

/-- R190: the code of a target. -/
def targetCode (t : Target) : Byte := u8 (targetNum t)

/-- The target of a number. -/
def targetOf (b : Byte) : Option Target :=
  if b = 0#8 then some .t0 else if b = 1#8 then some .t1 else if b = 2#8 then some .t2
  else if b = 3#8 then some .t3 else if b = 4#8 then some .t4 else if b = 5#8 then some .t5 else none

/-- R190: the code of a position. -/
def positionCode (p : Position) : Byte := u8 (positionNum p)

/-- The position of a number. -/
def positionOf (b : Byte) : Option Position :=
  if b = 0#8 then some .p0 else if b = 1#8 then some .p1 else if b = 2#8 then some .p2
  else if b = 3#8 then some .p3 else if b = 4#8 then some .p4 else if b = 5#8 then some .p5
  else if b = 6#8 then some .p6 else if b = 7#8 then some .p7 else none

/-- R192: an only-position, 0xFF being absent; `none` where it is out of range. -/
def onlyOf (b : Byte) : Option (Option Position) :=
  if b = 0xFF#8 then some none else (positionOf b).map some

/-- R190: a one-byte field that may be absent holds 0xFF when it is absent. -/
def optCode {α : Type} (code : α → Byte) : Option α → Byte
  | none => 0xFF#8
  | some x => code x

/-- R190: the code of a job origin. -/
def originCode : Origin → Byte
  | .start => 0#8 | .host => 1#8 | .faultReload => 2#8

/-- R190: the code of a job state. -/
def jobStateCode : JobState → Byte
  | .queued => 0#8 | .backoff => 1#8 | .probing => 2#8 | .streaming => 3#8 | .finishing => 4#8
  | .draining => 5#8 | .delivered => 6#8 | .failed => 7#8 | .aborted => 8#8

/-- R190: the code of a phase. -/
def phaseCode : Phase → Byte
  | .probe => 0#8 | .fetch => 1#8

/-- R190: the code of an attempt outcome. -/
def outcomeCode : AttemptOutcome → Byte
  | .noPort => 0#8 | .readError => 1#8 | .hostTimeout => 2#8 | .badMarker => 3#8 | .badHeader => 4#8
  | .wrongType => 5#8 | .badLength => 6#8 | .belowFloor => 7#8 | .changed => 8#8 | .streamError => 9#8
  | .checksum => 10#8 | .readyTimeout => 11#8 | .doneTimeout => 12#8 | .targetFault => 13#8

/-- R190: the code of a final outcome. -/
def finalCode : FinalOutcome → Byte
  | .delivered => 0#8 | .noImage => 1#8 | .noSources => 2#8 | .aborted => 3#8

/-- R190: the code of a target condition. -/
def conditionCode : Condition → Byte
  | .none => 0#8 | .loaded => 1#8 | .faulted => 2#8

/-- R190: the code of a line state. -/
def lineCode : LineState → Byte
  | .asserted => 0#8 | .releasing => 1#8 | .released => 2#8

/-- R190: the code of a port state. -/
def portStateCode : PortState → Byte
  | .absent => 0#8 | .probing => 1#8 | .ready => 2#8 | .writing => 3#8 | .empty => 4#8 | .waking => 5#8 | .faulted => 6#8

/-- R190: the code of a start-up state. -/
def startupCode : Startup → Byte
  | .probingPorts => 0#8 | .loadingSetup => 1#8 | .ready => 2#8

/-- R190: the code of a setup origin. -/
def setupOriginCode : SetupOrigin → Byte
  | .copyA => 0#8 | .copyB => 1#8 | .defaults => 2#8

/-- R190: the code of an origin reason. -/
def reasonCode : OriginReason → Byte
  | .none => 0#8 | .otherCopyInvalid => 1#8 | .noValidCopy => 2#8 | .noFlash => 3#8

/-- R190: the code of a saved copy. -/
def copyCode : Copy → Byte
  | .a => 0#8 | .b => 1#8

/-- R190: the code of a save result. -/
def saveResultCode : SaveResult → Byte
  | .none => 0#8 | .ok => 1#8 | .saveFailed => 2#8

/-! ### Source entries (R29, R30, R32) -/

/-- R29, R30, R32: the ranges of a source entry and its two constraints. -/
def SourceEntry.inRange (e : SourceEntry) : Bool :=
  e.base ≤ Config.maxAddress
    && (match e.port with
        | .host => e.base = 0
        | .flash0 => Config.firstImageBlock ≤ e.base
        | .flash1 | .card => true)

/-- R193: the six bytes of a source entry. -/
def SourceEntry.encode (e : SourceEntry) : List Byte :=
  markCode e.enabled :: portCode e.port :: le 4 e.base

/-- R32: the source entry six bytes hold, if every field is in range and both constraints hold. -/
def SourceEntry.parse (bs : List Byte) : Option SourceEntry := do
  let enabled ← markOf (byteAt bs 0)
  let port ← portOf (byteAt bs 1)
  let e : SourceEntry := ⟨enabled, port, ofLE (bytesAt bs 2 4)⟩
  if e.inRange then some e else none

/-! ### Target records (R1, R3) -/

/-- R1: the ranges of a target record. The fields a type already bounds are not tested again. -/
def TargetRecord.inRange (r : TargetRecord) : Bool :=
  r.imageType ≠ 0#8 && r.imageType ≠ 0xFF#8 && r.passLimit ≤ 15 && r.backoff ≤ 255
    && 1 ≤ r.maxPayload && r.maxPayload ≤ Config.maxPayload
    && 1 ≤ r.readyTimeout && r.readyTimeout ≤ 255 && 1 ≤ r.doneTimeout && r.doneTimeout ≤ 255

/-- The class of a code. -/
def classOf (b : Byte) : Option (Fin 4) :=
  if h : b.toNat < 4 then some ⟨b.toNat, h⟩ else none

/-- R193: the 21 bytes of a target record. -/
def TargetRecord.encode (r : TargetRecord) : List Byte :=
  [markCode r.present, kindCode r.kind, r.imageType, u8 r.cls.val, searchCode r.mode, r.candidates,
    u8 r.passLimit, u8 r.backoff]
  ++ le 4 r.maxPayload ++ le 4 r.versionFloor.toNat
  ++ [markCode r.raisePermitted, markCode r.autoStart, markCode r.reload, u8 r.readyTimeout, u8 r.doneTimeout]

/-- R3: the target record 21 bytes hold, if every field is in range. -/
def TargetRecord.parse (bs : List Byte) : Option TargetRecord := do
  let present ← markOf (byteAt bs 0)
  let kind ← kindOf (byteAt bs 1)
  let cls ← classOf (byteAt bs 3)
  let mode ← searchOf (byteAt bs 4)
  let raisePermitted ← markOf (byteAt bs 16)
  let autoStart ← markOf (byteAt bs 17)
  let reload ← markOf (byteAt bs 18)
  let r : TargetRecord := {
    present, kind, imageType := byteAt bs 2, cls, mode, candidates := byteAt bs 5
    passLimit := (byteAt bs 6).toNat, backoff := (byteAt bs 7).toNat
    maxPayload := ofLE (bytesAt bs 8 4), versionFloor := word (bytesAt bs 12 4)
    raisePermitted, autoStart, reload
    readyTimeout := (byteAt bs 19).toNat, doneTimeout := (byteAt bs 20).toNat }
  if r.inRange then some r else none

/-- R10: the mark of a position in a candidate set. -/
def TargetRecord.marks (r : TargetRecord) (p : Position) : Bool := r.candidates.getLsbD (positionNum p)

/-! ### Settings (R110, R111) -/

/-- R90: a credit limit is 1 to 3. -/
def limitOf (b : Byte) : Option Nat := if 1 ≤ b.toNat ∧ b.toNat ≤ 3 then some b.toNat else none

/-- R114: a host block timeout is 1 to 100. -/
def hostTimeoutOf (b : Byte) : Option Nat := if 1 ≤ b.toNat ∧ b.toNat ≤ 100 then some b.toNat else none

/-- R111: the ranges of the settings. -/
def Settings.inRange (x : Settings) : Bool :=
  [Port.flash0, .flash1, .card, .host].all (fun p => 1 ≤ x.limits.get p && x.limits.get p ≤ 3)
    && 1 ≤ x.hostTimeout && x.hostTimeout ≤ 100

/-- R193: the 13 bytes of the settings. -/
def Settings.encode (x : Settings) : List Byte :=
  [chanCode x.c0, chanCode x.c1, chanCode x.c2, chanCode x.c3,
    u8 x.limits.flash0, u8 x.limits.flash1, u8 x.limits.card, u8 x.limits.host,
    modeCode x.modes.flash0, modeCode x.modes.flash1, modeCode x.modes.card, modeCode x.modes.host,
    u8 x.hostTimeout]

/-- R148: the settings 13 bytes hold, each item out of its range replaced by that item's default (Log 9). -/
def Settings.load (bs : List Byte) : Settings :=
  let d := Settings.default
  { c0 := (chanOf (byteAt bs 0)).getD d.c0
    c1 := (chanOf (byteAt bs 1)).getD d.c1
    c2 := (chanOf (byteAt bs 2)).getD d.c2
    c3 := (chanOf (byteAt bs 3)).getD d.c3
    limits := {
      flash0 := (limitOf (byteAt bs 4)).getD d.limits.flash0
      flash1 := (limitOf (byteAt bs 5)).getD d.limits.flash1
      card := (limitOf (byteAt bs 6)).getD d.limits.card
      host := (limitOf (byteAt bs 7)).getD d.limits.host }
    modes := {
      flash0 := (modeOf (byteAt bs 8)).getD d.modes.flash0
      flash1 := (modeOf (byteAt bs 9)).getD d.modes.flash1
      card := (modeOf (byteAt bs 10)).getD d.modes.card
      host := (modeOf (byteAt bs 11)).getD d.modes.host }
    hostTimeout := (hostTimeoutOf (byteAt bs 12)).getD d.hostTimeout }

/-- R111: whether every settings item of 13 bytes is in its range. -/
def Settings.clean (bs : List Byte) : Bool :=
  [0, 1, 2, 3].all (fun i => (chanOf (byteAt bs i)).isSome)
    && [4, 5, 6, 7].all (fun i => (limitOf (byteAt bs i)).isSome)
    && [8, 9, 10, 11].all (fun i => (modeOf (byteAt bs i)).isSome)
    && (hostTimeoutOf (byteAt bs 12)).isSome

/-- R111: the settings 13 bytes hold, if every item is in range. -/
def Settings.parse (bs : List Byte) : Option Settings :=
  if Settings.clean bs then some (Settings.load bs) else none

/-- R15: the class map. -/
def Settings.classMap (x : Settings) : Fin 4 → Chan
  | 0 => x.c0
  | 1 => x.c1
  | 2 => x.c2
  | 3 => x.c3

/-! ### Saved copies (R142, R143, R148) -/

/-- R142: the marker of a saved copy. -/
def copyMarker : List Byte := [0x9E#8, 0x4D#8, 0x5E#8, 0x70#8]

/-- R142: the body of a copy: the source list, the target records and the settings. -/
def Setup.encode (x : Setup) : List Byte :=
  allPositions.flatMap (fun p => (x.sources.get p).encode)
  ++ allTargets.flatMap (fun t => (x.targets.get t).encode)
  ++ x.settings.encode

/-- R142: the bytes of a copy that its copy check covers. -/
def copyCovered (generation : Word32) (x : Setup) : List Byte :=
  copyMarker ++ le 4 generation.toNat ++ le 2 Config.bodyBytes ++ x.encode

/-- R142, R153: the 256 bytes the writer builds, filled with 0xFF after the copy check. -/
def buildCopy (generation : Word32) (x : Setup) : List Byte :=
  let covered := copyCovered generation x
  covered ++ le 4 (crc32 covered).toNat ++ List.replicate 55 0xFF#8

/-- R143: whether the bytes of a copy are valid. -/
def copyValid (bs : List Byte) : Bool :=
  bytesAt bs 0 4 = copyMarker && ofLE (bytesAt bs 8 2) = Config.bodyBytes
    && crc32 (bytesAt bs 0 197) = word (bytesAt bs 197 4)

/-- R142: the generation of a copy. -/
def copyGeneration (bs : List Byte) : Word32 := word (bytesAt bs 4 4)

/-- R193: the bytes of source entry Pn in a copy. -/
def copySource (bs : List Byte) (p : Position) : List Byte := bytesAt bs (10 + 6 * positionNum p) 6

/-- R193: the bytes of target record Tt in a copy. -/
def copyTarget (bs : List Byte) (t : Target) : List Byte := bytesAt bs (58 + 21 * targetNum t) 21

/-- R193: the bytes of the settings in a copy. -/
def copySettings (bs : List Byte) : List Byte := bytesAt bs 184 13

/-- R148: the live setup loaded from a copy, each value out of range replaced by its default. -/
def loadSetup (bs : List Byte) : Setup where
  sources :=
    let f := fun p => (SourceEntry.parse (copySource bs p)).getD .default
    ⟨f .p0, f .p1, f .p2, f .p3, f .p4, f .p5, f .p6, f .p7⟩
  targets :=
    let f := fun t => (TargetRecord.parse (copyTarget bs t)).getD .default
    ⟨f .t0, f .t1, f .t2, f .t3, f .t4, f .t5⟩
  settings := Settings.load (copySettings bs)

/-- R148: whether loading the copy replaces at least one value. -/
def loadReplaces (bs : List Byte) : Bool :=
  allPositions.any (fun p => (SourceEntry.parse (copySource bs p)).isNone)
    || allTargets.any (fun t => (TargetRecord.parse (copyTarget bs t)).isNone)
    || !Settings.clean (copySettings bs)

end Sys2Proof.Machine
end

