-- ==== Sys2Proof/Machine/Ops.lean ====
section
/-! DEFINITION. The named operations over the state: one per piece of state, the views one block takes of another, and the
reset line of a target. Every meaning is built from them. -/

namespace Sys2Proof.Machine

/-! ### Updates, one per block -/

/-- The state with the Job Table's entry of one target changed. -/
def State.updSlot (s : State) (t : Target) (f : JobSlot → JobSlot) : State :=
  { s with jobs := s.jobs.set t (f (s.jobs.get t)) }

/-- The state with one channel changed. -/
def State.updChannel (s : State) (c : Chan) (f : Channel → Channel) : State :=
  { s with channels := s.channels.set c (f (s.channels.get c)) }

/-- The state with one wait queue changed. -/
def State.updQueue (s : State) (c : Chan) (f : List Target → List Target) : State :=
  { s with queues := s.queues.set c (f (s.queues.get c)) }

/-- The state with one source port changed. -/
def State.updPort (s : State) (p : Port) (f : SourcePort → SourcePort) : State :=
  { s with ports := s.ports.set p (f (s.ports.get p)) }

/-- The state with one Target Port changed. -/
def State.updLine (s : State) (t : Target) (f : TargetPort → TargetPort) : State :=
  { s with lines := s.lines.set t (f (s.lines.get t)) }

/-- The state with the Setup Store changed. -/
def State.updStore (s : State) (f : SetupStore → SetupStore) : State := { s with store := f s.store }

/-- The state with the Host Link changed. -/
def State.updLink (s : State) (f : Link → Link) : State := { s with link := f s.link }

/-- The state with the Report Queue changed. -/
def State.updReports (s : State) (f : ReportQueue → ReportQueue) : State := { s with reports := f s.reports }

/-- The state with the wanted set replaced. -/
def State.setWanted (s : State) (w : List Wanted) : State := { s with wanted := w }

/-- The state with the input pins changed. -/
def State.updPins (s : State) (f : Pins → Pins) : State := { s with pins := f s.pins }

/-- R179: an event hands the Report Queue a kind and subject; the submission is made at the event's end. -/
def State.raise (s : State) (r : ReportId) : State := { s with raised := r :: s.raised }

/-! ### Views -/

/-- R1: the target's record in the live setup at this moment. -/
def State.record (s : State) (t : Target) : TargetRecord := s.store.setup.targets.get t

/-- R29: the entry of the source list at this moment. -/
def State.source (s : State) (p : Position) : SourceEntry := s.store.setup.sources.get p

/-- R110: the settings at this moment. -/
def State.settings (s : State) : Settings := s.store.setup.settings

/-- R7: the target's job record. -/
def State.job (s : State) (t : Target) : Option Job := (s.jobs.get t).job

/-- The state with the target's job record, if there is one, changed. -/
def State.updJob (s : State) (t : Target) (f : Job → Job) : State :=
  s.updSlot t fun x => { x with job := x.job.map f }

/-- R12: the final states. -/
def JobState.isFinal : JobState → Bool
  | .delivered | .failed | .aborted => true
  | .queued | .backoff | .probing | .streaming | .finishing | .draining => false

/-- R9: whether the target has a job in a non-final state. -/
def State.busy (s : State) (t : Target) : Bool :=
  match s.job t with
  | some j => !j.state.isFinal
  | none => false

/-- R11: the channel whose running job is the target's job. -/
def State.channelOf (s : State) (t : Target) : Option Chan :=
  if (s.channels.get .a).running = some t then some .a
  else if (s.channels.get .b).running = some t then some .b
  else none

/-- R99, R105: the outstanding count of a port; on HOST it is the size of the wanted set. -/
def State.outstanding (s : State) (p : Port) : Nat :=
  match p with
  | .host => s.wanted.length
  | .flash0 | .flash1 | .card => (s.ports.get p).reads.length

/-- R98: a port in one of these states answers a claim at once with NO PORT. -/
def PortState.refuses : PortState → Bool
  | .absent | .empty | .faulted => true
  | .probing | .ready | .writing | .waking => false

/-- R98: whether a claim on the port is answered at once with NO PORT. -/
def State.refuses (s : State) (p : Port) : Bool := (s.ports.get p).state.refuses

/-- R72: whether channel `c` has a claim waiting on port `p`. -/
def State.claims (s : State) (c : Chan) (p : Port) : Bool :=
  match (s.channels.get c).claim with
  | some k => k.port = p
  | none => false

/-- R107: whether a read of the PEEK path is outstanding on the port. -/
def State.peekReading (s : State) (p : Port) : Bool := (s.ports.get p).reads.any fun r => r.reader = .peek

/-- R106, R107: the address of the PEEK claim waiting on the port, if there is one. -/
def State.peekClaim (s : State) (p : Port) : Option Nat :=
  match s.link.handler with
  | .serving _ (.peek q a) => if q = p && !s.peekReading p then some a else none
  | .serving _ (.rescan _) | .serving _ .save | .idle | .stopped => none

/-- R103: whether the setup writer has its claim on FLASH0 or owns it. -/
def State.writerClaims (s : State) : Bool := s.store.save.isSome

/-! ### Ports -/

/-- R91: a change of a port's state queues a PART report. -/
def State.setPortState (s : State) (p : Port) (x : PortState) : State :=
  if (s.ports.get p).state = x then s else (s.updPort p fun q => { q with state := x }).raise .part

/-- R90, R92, R95: the port takes a capacity in blocks. -/
def State.setCapacity (s : State) (p : Port) (n : Nat) : State := s.updPort p fun q => { q with capacity := n }

/-! ### Jobs -/

/-- R28: the job's state is set; a change queues a JOB report. -/
def State.setJobState (s : State) (t : Target) (x : JobState) : State :=
  match s.job t with
  | none => s
  | some j => if j.state = x then s else (s.updJob t fun j => { j with state := x }).raise (.job t)

/-- R5, R28: the target's condition is set; a change queues a JOB report. -/
def State.setCondition (s : State) (t : Target) (x : Condition) : State :=
  if (s.jobs.get t).condition = x then s
  else (s.updSlot t fun y => { y with condition := x }).raise (.job t)

/-- R14: behind every entry whose class is equal or lower, ahead of every entry of higher class. -/
def insertByClass (cls : Target → Fin 4) (t : Target) : List Target → List Target
  | [] => [t]
  | u :: us => if cls t < cls u then t :: u :: us else u :: insertByClass cls t us

/-- R14, R15: the job enters the wait queue of the channel mapped to its class. -/
def State.enterQueue (s : State) (t : Target) : State :=
  s.updQueue (s.settings.classMap (s.record t).cls) (insertByClass (fun u => (s.record u).cls) t)

/-- R14: a QUEUED job is removed from wherever it stands. -/
def State.leaveQueues (s : State) (t : Target) : State :=
  (s.updQueue .a (·.filter (· ≠ t))).updQueue .b (·.filter (· ≠ t))

/-- R71, R82: the running job leaves its channel, whose stream parameters and running check become absent. -/
def State.leaveChannel (s : State) (c : Chan) : State :=
  s.updChannel c fun x => { x with running := none, params := none, check := none }

/-- R7, R51: the job takes a final state with its final outcome; abort pending becomes no. -/
def State.finishJob (s : State) (t : Target) (x : JobState) (o : FinalOutcome) : State :=
  (s.updJob t fun j => { j with state := x, final := some o, abortPending := false }).raise (.job t)

/-- R48: an entry is appended, the oldest leaving a log that already holds 16. -/
def appendLog (log : List LogEntry) (e : LogEntry) : List LogEntry :=
  let l := log ++ [e]
  l.drop (l.length - Config.logDepth)

/-- R13: the attempt ends with an outcome: it is the last attempt outcome, it is logged, and a JOB report is queued. -/
def Job.recordOutcome (j : Job) (o : AttemptOutcome) : Job :=
  { j with
    lastOutcome := some o
    log := match j.position, j.phase with
      | some p, some ph => appendLog j.log ⟨j.pass, p, ph, o⟩
      | none, _ | some _, none => j.log }

/-- R13 on the state. -/
def State.recordOutcome (s : State) (t : Target) (o : AttemptOutcome) : State :=
  (s.updJob t (·.recordOutcome o)).raise (.job t)

/-! ### The reset line (R127, R128) and what depends on it (R129, R134) -/

/-- R128, R134: the line is asserted. From RELEASED the pulse timer starts; otherwise it stays as it was. A fault take
pending ends. -/
def TargetPort.assert (x : TargetPort) : TargetPort :=
  { x with
    line := .asserted
    pulse := if x.line = .released then some Config.pulseMs else x.pulse
    faultPending := false }

/-- R129: the lane state of a block whose target may be sent to: SENDING, or WAITING READY with the ready timer started
at the target's ready timeout (R130). The stream start, if it is owed, is sent in this event. -/
def TargetPort.offer (x : TargetPort) (trdy : Bool) (r : TargetRecord) : TargetPort :=
  { x with
    lane := if trdy then .sending else .waitingReady
    ready := if trdy then none else some (10 * r.readyTimeout)
    block := x.block.map fun b => { b with startOwed := false } }

/-- R134, R129: the line becomes RELEASED: a fault is left pending if TFLT is asserted, and a lane WAITING RELEASE goes
on. -/
def TargetPort.becomeReleased (x : TargetPort) (tflt trdy : Bool) (r : TargetRecord) : TargetPort :=
  let y := { x with line := .released, faultPending := tflt }
  if y.lane = .waitingRelease then y.offer trdy r else y

/-- R128: the line is released: RELEASING while the pulse timer runs, RELEASED otherwise. -/
def TargetPort.release (x : TargetPort) (tflt trdy : Bool) (r : TargetRecord) : TargetPort :=
  if x.line = .released then x
  else if x.pulse.isSome then { x with line := .releasing }
  else x.becomeReleased tflt trdy r

/-- R131: a block delivery in progress is stopped, with the ready timer; the lane is IDLE. -/
def TargetPort.stopLane (x : TargetPort) : TargetPort := { x with lane := .idle, block := none, ready := none }

/-- R127: the target's line is asserted. -/
def State.assertLine (s : State) (t : Target) : State := s.updLine t (·.assert)

/-- R127: the target's line is released. -/
def State.releaseLine (s : State) (t : Target) : State :=
  s.updLine t (·.release (s.pins.tflt.get t) (s.pins.trdy.get t) (s.record t))

/-- R131, R133: the target's block delivery and its done timer are stopped. -/
def State.stopLane (s : State) (t : Target) : State := s.updLine t fun x => { x.stopLane with done := none }

/-! ### Slots (R69) -/

/-- R69: the number of the block a reserved slot holds. -/
def Slot.block : Slot → Option Nat
  | .free => none
  | .inFlight k | .held k _ | .delivering k _ => some k

/-- R69: whether the slot is IN FLIGHT. -/
def Slot.isInFlight : Slot → Bool
  | .inFlight _ => true
  | .free | .held _ _ | .delivering _ _ => false

/-- R69: whether the slot is DELIVERING. -/
def Slot.isDelivering : Slot → Bool
  | .delivering _ _ => true
  | .free | .held _ _ | .inFlight _ => false

/-- R73: a FREE slot becomes IN FLIGHT with block `k`. R69 and R73 do not say which of several; the model takes the first of
its list (DESIGN CHOICE, Log 25). -/
def reserve (k : Nat) : List Slot → List Slot
  | [] => []
  | .free :: xs => .inFlight k :: xs
  | x :: xs => x :: reserve k xs

/-- R69: the slot of block `k` becomes `x`. -/
def setSlot (k : Nat) (x : Slot) (xs : List Slot) : List Slot := xs.map fun y => if y.block = some k then x else y

/-- R84, R87: every HELD or DELIVERING block is discarded; an IN FLIGHT slot stays unless `cancel` (the reads of a HOST
attempt, R120). -/
def discard (cancel : Bool) (xs : List Slot) : List Slot :=
  xs.map fun y => if y.isInFlight && !cancel then y else .free

/-- R79: the bytes of the HELD slot of block `k`. -/
def heldBlock (k : Nat) (xs : List Slot) : Option (List Byte) :=
  xs.findSome? fun y => match y with
    | .held n data => if n = k then some data else none
    | .free | .inFlight _ | .delivering _ _ => none

/-- R80: the bytes of the DELIVERING slot. -/
def deliveringBlock (xs : List Slot) : Option (List Byte) :=
  xs.findSome? fun y => match y with
    | .delivering _ data => some data
    | .free | .inFlight _ | .held _ _ => none

end Sys2Proof.Machine
end

