-- ==== Sys2Proof/Machine/Flags.lean ====
section
/-! DEFINITION. The setup-changed flag with the edited-since-snapshot mark, and the discard counts of the link. -/

namespace Sys2Proof.Machine

/-- R144, R155: an event that sets the setup-changed flag also sets the edited-since-snapshot mark of a save. -/
def SetupStore.markChanged (x : SetupStore) : SetupStore :=
  { x with changed := true, save := x.save.map fun v => { v with edited := true } }

/-- R4, R33, R111, R144: the live setup is replaced; the flag is set if at least one value now differs, and otherwise
keeps its value. -/
def SetupStore.edit (x : SetupStore) (new : Setup) : SetupStore :=
  if new = x.setup then x else { x with setup := new }.markChanged

/-- R165: a discard count is raised by 1 and stops at 65,535. -/
def countUp (n : Nat) : Nat := if n < Config.maxCount then n + 1 else n

end Sys2Proof.Machine
end

