-- ==== Sys2Proof/Machine/HeaderCheck.lean ====
section
/-! DEFINITION. The image format and the Header Check (spec/03). -/

namespace Sys2Proof.Machine

/-- R56: the marker of an image header. -/
def imageMarker : List Byte := [0x9E#8, 0x4D#8, 0x1A#8, 0xC7#8]

/-- R56: the version field. -/
def hdrVersion (bs : List Byte) : Word32 := word (bytesAt bs 8 4)

/-- R56: the payload length field. -/
def hdrLength (bs : List Byte) : Nat := ofLE (bytesAt bs 12 4)

/-- R54: the image length S of a payload length. -/
def imageLength (len : Nat) : Nat := Config.headerBytes + len

/-- R55: the block count N of a payload length. -/
def blockCount (len : Nat) : Nat := (imageLength len + 127) / Config.blockBytes

/-- R55: the number of image bytes that block `k` carries. -/
def blockLength (len k : Nat) : Nat := min Config.blockBytes (imageLength len - Config.blockBytes * k)

/-- R79: the payload bytes of block `k`: neither the header nor the bytes after the image end. -/
def payloadOf (len k : Nat) (data : List Byte) : List Byte :=
  (data.take (blockLength len k)).drop (if k = 0 then Config.headerBytes else 0)

/-- R65: the stream parameters an accepted header hands over. -/
def streamParams (bs : List Byte) : StreamParams where
  count := blockCount (hdrLength bs)
  length := hdrLength bs
  check := word (bytesAt bs 16 4)
  version := hdrVersion bs
  label := bytesAt bs 20 10
  raiseFloor := (byteAt bs 7).getLsbD 0
  header := bytesAt bs 0 32

/-- R59, R60, R61, R62, R63, R64: the judgement of a block 0 against a target record, in the order of R59's steps:
the failing outcome, or `none` for an acceptance. -/
def judge (bs : List Byte) (r : TargetRecord) (relaxed : Bool) : Option AttemptOutcome :=
  if bs.length < Config.headerBytes then some .badHeader
  else if bytesAt bs 0 4 ≠ imageMarker then some .badMarker
  else if (crc16 (bytesAt bs 0 30)).toNat ≠ ofLE (bytesAt bs 30 2) then some .badHeader
  else if byteAt bs 4 ≠ 1#8 ∨ byteAt bs 7 &&& 0xFE#8 ≠ 0#8 then some .badHeader
  else if byteAt bs 5 ≠ kindCode r.kind then some .wrongType
  else if ¬relaxed ∧ byteAt bs 6 ≠ r.imageType then some .wrongType
  else if hdrLength bs = 0 ∨ r.maxPayload < hdrLength bs then some .badLength
  else if ¬relaxed ∧ hdrVersion bs < r.versionFloor then some .belowFloor
  else none

/-- R43: the candidate entry of an accepted sweep probe. -/
def candidateOf (p : Position) (bs : List Byte) : Candidate :=
  ⟨p, hdrVersion bs, hdrLength bs, bytesAt bs 0 32⟩

/-- R43: a new entry goes ahead of the first entry whose version is lower, or equal with a higher position. -/
def insertCandidate (x : Candidate) : List Candidate → List Candidate
  | [] => [x]
  | y :: ys =>
    if y.version < x.version ∨ (y.version = x.version ∧ positionNum x.position < positionNum y.position)
    then x :: y :: ys
    else y :: insertCandidate x ys

end Sys2Proof.Machine
end

