-- ==== Sys2Proof/Machine/Search.lean ====
section
/-! DEFINITION. Jobs and their search (spec/01, 02): creation, attempt starts and ends, passes, drains, delivery. -/

namespace Sys2Proof.Machine

/-! ### Creation (R7 to R10) -/

/-- R10: the effective candidate set, in list order: the only-position or the target's candidate set, without the
positions whose entry is disabled at this moment. -/
def State.effectiveSet (s : State) (t : Target) (only : Option Position) : List Position :=
  allPositions.filter fun p =>
    (match only with
      | some q => q = p
      | none => (s.record t).marks p) && (s.source p).enabled

/-- R7, R8: the record of a new job. -/
def newJob (origin : Origin) (relaxed : Bool) (only : Option Position) (passLimit : Nat) (tag : Byte)
    (effective : List Position) : Job where
  origin := origin
  relaxed := relaxed
  only := only
  passLimit := passLimit
  state := .queued
  pass := 1
  position := none
  phase := none
  tag := tag
  delivered := 0
  lastOutcome := none
  final := none
  abortPending := false
  candidates := []
  log := []
  effective := effective
  entry := none

/-- R9: a job is created: the record is replaced, the line asserted, a LOADED condition becomes NONE, and the job is
QUEUED, or FAILED with NO SOURCES if its effective candidate set is empty. -/
def State.createJob (s : State) (t : Target) (origin : Origin) (relaxed : Bool) (only : Option Position) : State :=
  let tag := match s.job t with
    | some j => j.tag
    | none => 0#8
  let effective := s.effectiveSet t only
  let passLimit := if only.isSome then 1 else (s.record t).passLimit
  let s1 := s.updSlot t fun x =>
    { x with
      condition := if x.condition = .loaded then .none else x.condition
      job := some (newJob origin relaxed only passLimit tag effective) }
  let s2 := s1.assertLine t
  if effective.isEmpty then s2.finishJob t .failed .noSources
  else (s2.enterQueue t).raise (.job t)

/-! ### Attempts (R13, R35) -/

/-- R8, R13, R35, R72, R82: an attempt starts: the tag is raised, position and phase are set, blocks delivered is 0, the
entry is copied; the channel's issue counter is 0 and its stream parameters and running check are absent. -/
def State.startAttempt (s : State) (c : Chan) (t : Target) (p : Position) (ph : Phase) : State :=
  let e := s.source p
  (s.updJob t fun j =>
      { j with tag := j.tag + 1, position := some p, phase := some ph, delivered := 0, entry := some e }).updChannel c
    fun x => { x with issue := 0, params := none, check := none }

/-- R39, R42: a probe starts at `p`, with the claim of block 0 still to be placed. -/
def State.startProbe (s : State) (c : Chan) (t : Target) (p : Position) : State :=
  (s.startAttempt c t p .probe).setJobState t .probing

/-- R44, R78, R127: a NEWEST fetch starts from candidate `x`: the stream parameters come from its probed header, the
running check starts, the job is STREAMING and a LANE target's line is released. -/
def State.startFetch (s : State) (c : Chan) (t : Target) (x : Candidate) : State :=
  let s1 := (s.startAttempt c t x.position .fetch).updChannel c fun y =>
    { y with params := some (streamParams x.header), check := some crc32Init }
  let s2 := (s1.setJobState t .streaming).raise (.job t)
  if (s.record t).kind = .lane then s2.releaseLine t else s2

/-- R72: a claim for block `k` is placed on port `p`. -/
def State.setClaim (s : State) (c : Chan) (p : Port) (k : Nat) : State :=
  s.updChannel c fun x => { x with claim := some ⟨p, k⟩ }

/-- R72, R73, R98: the claim of block 0 answered at once with NO PORT is a grant and a completion taken together: the
issue counter is raised and the attempt ends with NO PORT. -/
def State.refusedAtOnce (s : State) (c : Chan) (t : Target) : State :=
  (s.updChannel c fun x => { x with issue := x.issue + 1 }).recordOutcome t .noPort

/-! ### Passes (R36 to R38, R17) -/

/-- R37, R38, R17: a pass ends: the job fails with NO IMAGE at its pass limit, or leaves its channel for BACKOFF or, with
back-off 0, for its wait queue. -/
def State.endPass (s : State) (c : Chan) (t : Target) : State :=
  match s.job t with
  | none => s
  | some j =>
    if j.passLimit ≠ 0 ∧ j.passLimit ≤ j.pass then (s.leaveChannel c).finishJob t .failed .noImage
    else
      let s1 := (s.leaveChannel c).updJob t fun j => { j with pass := min (j.pass + 1) Config.maxPass }
      let backoff := (s.record t).backoff
      if backoff = 0 then ((s1.updJob t fun j => { j with state := .queued }).enterQueue t).raise (.job t)
      else
        (s1.updSlot t fun x =>
          { x with job := x.job.map fun j => { j with state := .backoff }, backoff := some (100 * backoff) }).raise (.job t)

/-- R39, R41, R34: FIRST: the first enabled position of the list is probed, a position whose port refuses ends its
attempt at once, and the pass ends where none is left. -/
def State.probeFirst (c : Chan) (t : Target) : List Position → State → State
  | [], s => s.endPass c t
  | p :: ps, s =>
    if (s.source p).enabled then
      let s1 := s.startProbe c t p
      if s.refuses (s.source p).port then probeFirst c t ps (s1.refusedAtOnce c t)
      else s1.setClaim c (s.source p).port 0
    else probeFirst c t ps s

/-- R45: the head candidate is removed. -/
def State.dropHead (s : State) (t : Target) : State := s.updJob t fun j => { j with candidates := j.candidates.tail }

/-- R44, R45, R46: NEWEST: the next fetch starts from the head of the candidate list (`xs` is that list); a disabled head
is dropped with no attempt, a head whose port refuses fails at once, and the pass ends when the list is empty. -/
def State.fetchNewest (c : Chan) (t : Target) : List Candidate → State → State
  | [], s => s.endPass c t
  | x :: xs, s =>
    if (s.source x.position).enabled then
      let s1 := s.startFetch c t x
      if s.refuses (s.source x.position).port then
        let s2 := s1.refusedAtOnce c t
        let s3 := if (s.record t).kind = .lane then s2.assertLine t else s2
        let s4 := s3.updChannel c fun y => { y with check := none }
        fetchNewest c t xs (s4.dropHead t)
      else s1.setClaim c (s.source x.position).port 0
    else fetchNewest c t xs (s.dropHead t)

/-- R42, R34: NEWEST: the sweep goes on over the positions left, and then the fetches start. -/
def State.sweep (c : Chan) (t : Target) : List Position → State → State
  | [], s =>
    match s.job t with
    | none => s
    | some j => fetchNewest c t j.candidates s
  | p :: ps, s =>
    if (s.source p).enabled then
      let s1 := s.startProbe c t p
      if s.refuses (s.source p).port then sweep c t ps (s1.refusedAtOnce c t)
      else s1.setClaim c (s.source p).port 0
    else sweep c t ps s

/-- The positions of the effective set after the attempt's position, in list order (R41, R42). -/
def Job.rest (j : Job) : List Position :=
  match j.position with
  | none => j.effective
  | some p => j.effective.filter fun q => positionNum p < positionNum q

/-- R41, R42, R45: with nothing left to drain, the search moves on from the attempt that has ended. -/
def State.moveOn (s : State) (c : Chan) (t : Target) : State :=
  match s.job t with
  | none => s
  | some j =>
    match (s.record t).mode with
    | .first => probeFirst c t j.rest s
    | .newest =>
      if j.phase = some .fetch then fetchNewest c t j.candidates s else sweep c t j.rest s

/-- R36, R70: a job start begins a pass: the job becomes the running job in PROBING, its candidate list is emptied and the
search of its mode begins at the lowest position. -/
def State.startPass (s : State) (c : Chan) (t : Target) : State :=
  let s1 := s.updChannel c fun x => { x with running := some t, issue := 0, params := none, check := none }
  let s2 := (s1.updJob t fun j => { j with candidates := [] }).setJobState t .probing
  match s2.job t with
  | none => s2
  | some j =>
    match (s2.record t).mode with
    | .first => probeFirst c t j.effective s2
    | .newest => sweep c t j.effective s2

/-! ### Ends of attempts (R84, R85, R75) -/

/-- R120, R121: every wanted entry of the target is removed, with one WANT report if there was one. -/
def State.cancelHost (s : State) (t : Target) : State :=
  if s.wanted.any (·.target = t) then (s.setWanted (s.wanted.filter (·.target ≠ t))).raise (.want t) else s

/-- R35: whether the attempt reads from HOST. -/
def State.readsHost (s : State) (t : Target) : Bool :=
  match s.job t with
  | some j => match j.entry with
    | some e => e.port = .host
    | none => false
  | none => false

/-- R84 steps 1 to 3, R87: the claim is withdrawn, HOST reads are cancelled, held blocks are discarded and the lane is
stopped. -/
def State.clearAttempt (s : State) (c : Chan) (t : Target) : State :=
  let cancel := s.readsHost t
  ((s.updChannel c fun x => { x with claim := none, slots := discard cancel x.slots }).cancelHost t).stopLane t

/-- R84 step 5: whether a read of the channel is still in flight. -/
def State.draining (s : State) (c : Chan) : Bool := (s.channels.get c).slots.any (·.isInFlight)

/-- R84, R83, R45, R127: a fetch, or an attempt in FINISHING, ends with an outcome: it is logged, a LANE target's line is
asserted, a NEWEST head candidate is removed, and the job drains or the search moves on. -/
def State.endFetch (s : State) (c : Chan) (t : Target) (o : AttemptOutcome) : State :=
  let s1 := ((s.clearAttempt c t).updChannel c fun x => { x with check := none }).recordOutcome t o
  let s2 := if (s.record t).kind = .lane then s1.assertLine t else s1
  let s3 := if (s.record t).mode = .newest then s2.dropHead t else s2
  if s3.draining c then s3.setJobState t .draining else s3.moveOn c t

/-- R39, R42, R75: a probe ends with an outcome; it has nothing left to drain. -/
def State.endProbe (s : State) (c : Chan) (t : Target) (o : AttemptOutcome) : State :=
  ((s.updChannel c fun x => { x with claim := none }).recordOutcome t o).moveOn c t

/-- R75, R84: the running attempt ends with an outcome. -/
def State.endAttempt (s : State) (c : Chan) (t : Target) (o : AttemptOutcome) : State :=
  match s.job t with
  | none => s
  | some j =>
    match j.state with
    | .probing => s.endProbe c t o
    | .streaming | .finishing => s.endFetch c t o
    | .queued | .backoff | .draining | .delivered | .failed | .aborted => s

/-- R51, R71: the job is ABORTED and leaves its channel. -/
def State.abortJob (s : State) (c : Chan) (t : Target) : State := (s.leaveChannel c).finishJob t .aborted .aborted

/-- R85, R24: a completion that reaches a DRAINING job frees its slot; the last one ends the drain, as ABORTED if abort
pending, and otherwise the search moves on. -/
def State.drained (s : State) (c : Chan) (t : Target) : State :=
  if s.draining c then s
  else
    match s.job t with
    | none => s
    | some j => if j.abortPending then s.abortJob c t else s.moveOn c t

/-! ### Delivery (R25, R26) -/

/-- R26: the floor raise at delivery. -/
def State.raiseFloor (s : State) (t : Target) (x : StreamParams) : State :=
  let r := s.record t
  if r.raisePermitted && x.raiseFloor && decide (r.versionFloor < x.version) then
    s.updStore fun y =>
      { y with setup := { y.setup with targets := y.setup.targets.set t { r with versionFloor := x.version } } }.markChanged
  else s

/-- R6, R25: the descriptor of the delivering attempt. -/
def descriptorOf (j : Job) (x : StreamParams) : Option Descriptor :=
  match j.position, j.entry with
  | some p, some e => some ⟨p, e.port, x.version, x.length, x.check, x.label⟩
  | none, _ | some _, none => none

/-- R25, R127, R132: the job becomes DELIVERED: it leaves its channel, the condition becomes LOADED, the descriptor is
replaced, the floor raise is applied, and a MEMORY target's line is released. -/
def State.deliver (s : State) (c : Chan) (t : Target) : State :=
  match s.job t, (s.channels.get c).params with
  | some j, some x =>
    let s1 := (s.leaveChannel c).finishJob t .delivered .delivered
    let s2 := s1.updSlot t fun y => { y with condition := .loaded, descriptor := descriptorOf j x }
    let s3 := s2.raiseFloor t x
    let s4 := s3.updLine t fun y => { y with done := none }
    if (s.record t).kind = .memory then s4.releaseLine t else s4
  | none, _ | some _, none => s

/-! ### Faults (R21, R134 to R136) -/

/-- R21, R134, R135, R136: a fault is taken: it ends the running attempt of a job in STREAMING or FINISHING with TARGET
FAULT, or sets a LOADED target with no non-final job FAULTED and reloads it where the record asks for that. -/
def State.takeFault (s : State) (t : Target) : State :=
  if s.busy t then
    match s.channelOf t, s.job t with
    | some c, some j =>
      if j.state = .streaming ∨ j.state = .finishing then s.endFetch c t .targetFault else s
    | none, _ | some _, none => s
  else if (s.jobs.get t).condition = .loaded then
    let s1 := s.setCondition t .faulted
    if (s.record t).present && (s.record t).reload then s1.createJob t .faultReload false none else s1
  else s

end Sys2Proof.Machine
end

