-- ==== Sys2Proof/Machine/Channels.lean ====
section
/-! DEFINITION. The fetch channels (spec/04): claims, completions, the hand-off to the lane (spec/07), the end of a stream,
and the channel's part in an ABORT. -/

namespace Sys2Proof.Machine

/-! ### Claims (R72) -/

/-- R72: the limit of the issue counter: 1 in a probe, the block count N in a fetch. -/
def claimLimit (j : Job) (x : Channel) : Nat :=
  match j.phase, x.params with
  | some .probe, _ => 1
  | some .fetch, some p => p.count
  | some .fetch, none | none, _ => 0

/-- R72: whether the channel has a claim to place. -/
def mayClaim (j : Job) (x : Channel) : Bool :=
  (j.state = .probing || j.state = .streaming) && x.claim.isNone && x.slots.any (· = .free)
    && decide (x.issue < claimLimit j x)

/-- R72, R73, R98: the next claim is placed if the conditions hold; a port that refuses answers it at once with NO PORT,
which is a grant and a completion taken together and ends the attempt. -/
def State.placeClaim (s : State) (c : Chan) (t : Target) : State :=
  match s.job t with
  | none => s
  | some j =>
    match j.entry with
    | none => s
    | some e =>
      let x := s.channels.get c
      if mayClaim j x then
        if s.refuses e.port then
          (s.updChannel c fun y => { y with issue := y.issue + 1 }).endAttempt c t .noPort
        else s.setClaim c e.port x.issue
      else s

/-! ### The lane (R79, R129) -/

/-- R129: the port takes a block: the lane state is set by the line and by TRDY; the stream start before block 0 is owed
until the block may be sent. -/
def TargetPort.take (x : TargetPort) (k : Nat) (payload : List Byte) (trdy : Bool) (r : TargetRecord) : TargetPort :=
  let y := { x with block := some ⟨k, payload, k = 0⟩ }
  if r.kind = .lane ∧ x.line ≠ .released then { y with lane := .waitingRelease } else y.offer trdy r

/-- R79: the block whose number equals blocks delivered is handed to the lane if it is HELD and no slot is
DELIVERING. -/
def State.handOff (s : State) (c : Chan) (t : Target) : State :=
  let x := s.channels.get c
  match s.job t, x.params with
  | some j, some p =>
    if j.state = .streaming ∧ ¬x.slots.any (·.isDelivering) then
      match heldBlock j.delivered x.slots with
      | none => s
      | some data =>
        (s.updChannel c fun y => { y with slots := setSlot j.delivered (.delivering j.delivered data) y.slots }).updLine t
          (·.take j.delivered (payloadOf p.length j.delivered data) (s.pins.trdy.get t) (s.record t))
    else s
  | none, _ | some _, none => s

/-! ### Completions (R74, R75, R77, R78, R81) -/

/-- R81: whether a HOST block has a length other than its image length. -/
def State.wrongLength (s : State) (t : Target) (len k : Nat) (data : List Byte) : Bool :=
  s.readsHost t && decide (data.length ≠ blockLength len k)

/-- R69: the slot of block `k` becomes `x`. -/
def State.putSlot (s : State) (c : Chan) (k : Nat) (x : Slot) : State :=
  s.updChannel c fun y => { y with slots := setSlot k x y.slots }

/-- R77, R40, R81: an accepted FIRST probe moves to its fetch in the same attempt: STREAMING, phase FETCH, stream
parameters and running check set, a LANE target's line released; block 0 is held and handed on, unless it came from HOST
with a wrong length. -/
def State.acceptFirst (s : State) (c : Chan) (t : Target) (data : List Byte) : State :=
  let p := streamParams data
  let s1 := (s.updChannel c fun y => { y with params := some p, check := some crc32Init }).updJob t fun j =>
    { j with phase := some .fetch, delivered := 0 }
  let s2 := s1.setJobState t .streaming
  let s3 := if (s.record t).kind = .lane then s2.releaseLine t else s2
  if s3.wrongLength t p.length 0 data then (s3.putSlot c 0 .free).endFetch c t .streamError
  else ((s3.putSlot c 0 (.held 0 data)).handOff c t).placeClaim c t

/-- R42, R43, R77: an accepted sweep probe adds a candidate entry, frees its slot and moves the sweep on. -/
def State.acceptNewest (s : State) (c : Chan) (t : Target) (j : Job) (data : List Byte) : State :=
  let s1 := s.putSlot c 0 .free
  let s2 := match j.position with
    | some p => s1.updJob t fun j => { j with candidates := insertCandidate (candidateOf p data) j.candidates }
    | none => s1
  s2.moveOn c t

/-- R74, R77: a probe's block 0 is handed to the Header Check. -/
def State.probeData (s : State) (c : Chan) (t : Target) (j : Job) (data : List Byte) : State :=
  match judge data (s.record t) j.relaxed with
  | some o => (s.putSlot c 0 .free).endProbe c t o
  | none =>
    match (s.record t).mode with
    | .first => s.acceptFirst c t data
    | .newest => s.acceptNewest c t j data

/-- R78: whether a re-read block 0 equals the header of the stream parameters. -/
def sameHeader (p : StreamParams) (data : List Byte) : Bool :=
  Config.headerBytes ≤ data.length && bytesAt data 0 32 = p.header

/-- R74, R78, R81: a block of a fetch: block 0 of a NEWEST fetch is compared first, a HOST block's length is tested, and
a block that passes is HELD and may go to the lane. -/
def State.fetchData (s : State) (c : Chan) (t : Target) (k : Nat) (data : List Byte) : State :=
  match (s.channels.get c).params with
  | none => s
  | some p =>
    if k = 0 ∧ ¬sameHeader p data then (s.putSlot c k .free).endFetch c t .changed
    else if s.wrongLength t p.length k data then (s.putSlot c k .free).endFetch c t .streamError
    else (s.putSlot c k (.held k data)).handOff c t

/-- R74, R85: a read of channel `c` for block `k` completes with data. -/
def State.channelData (s : State) (c : Chan) (k : Nat) (data : List Byte) : State :=
  match (s.channels.get c).running with
  | none => s
  | some t =>
    match s.job t with
    | none => s
    | some j =>
      match j.state with
      | .probing => s.probeData c t j data
      | .streaming => s.fetchData c t k data
      | .draining => (s.putSlot c k .free).drained c t
      | .queued | .backoff | .finishing | .delivered | .failed | .aborted => s

/-- R75, R85: a read of channel `c` for block `k` completes with a port outcome. -/
def State.channelFails (s : State) (c : Chan) (k : Nat) (o : AttemptOutcome) : State :=
  match (s.channels.get c).running with
  | none => s
  | some t =>
    match s.job t with
    | none => s
    | some j =>
      let s1 := s.putSlot c k .free
      match j.state with
      | .probing | .streaming => s1.endAttempt c t o
      | .draining => s1.drained c t
      | .queued | .backoff | .finishing | .delivered | .failed | .aborted => s

/-! ### Delivery of a block and the end of the stream (R80, R82, R132) -/

/-- R82, R132: the end of the stream: DELIVERED for a MEMORY target, FINISHING for a LANE target, where TDONE is judged,
or CHECKSUM. -/
def State.endStream (s : State) (c : Chan) (t : Target) : State :=
  match (s.channels.get c).params, (s.channels.get c).check with
  | some p, some reg =>
    if ~~~ reg = p.check then
      if (s.record t).kind = .memory then s.deliver c t
      else
        let s1 := s.setJobState t .finishing
        if s.pins.tdone.get t then s1.deliver c t
        else s1.updLine t fun x => { x with done := some (10 * (s.record t).doneTimeout) }
    else s.endFetch c t .checksum
  | none, _ | some _, none => s

/-- R80: the block delivery has completed: the running check advances over the payload of the block, blocks delivered
rises, the slot is freed; then the stream ends, or the next block is handed on and the next claim placed. -/
def State.blockDelivered (s : State) (c : Chan) (t : Target) : State :=
  let x := s.channels.get c
  match s.job t, x.params, deliveringBlock x.slots with
  | some j, some p, some data =>
    let k := j.delivered
    let s1 := (s.updChannel c fun y =>
        { y with
          check := y.check.map fun reg => crc32Over reg (payloadOf p.length k data)
          slots := setSlot k .free y.slots }).updJob t fun j => { j with delivered := k + 1 }
    if k + 1 = p.count then s1.endStream c t else (s1.handOff c t).placeClaim c t
  | none, _, _ | some _, none, _ | some _, some _, none => s

/-! ### ABORT (R23, R87) -/

/-- R23, R87: ABORT to a running job: the line is asserted, the attempt is cleared, and the job is ABORTED, or DRAINING
with abort pending while flash or card reads are in flight. -/
def State.abortRunning (s : State) (c : Chan) (t : Target) : State :=
  let s1 := (s.assertLine t).clearAttempt c t
  if s1.draining c then
    ((s1.updJob t fun j => { j with abortPending := true }).setJobState t .draining).raise (.job t)
  else s1.abortJob c t

end Sys2Proof.Machine
end

