-- ==== Sys2Proof/Machine/Frames.lean ====
section
/-! DEFINITION. The frames of the link and the byte layouts of replies and reports (spec/09 9.3, spec/11). -/

namespace Sys2Proof.Machine

/-- R162, 11.2: the sync byte. -/
def syncByte : Byte := 0xA5#8

/-- R172, 11.2: a frame: sync, length, sequence, kind, payload, frame check low byte first. -/
def frameOf (seq kind : Byte) (payload : List Byte) : List Byte :=
  let body := u8 (payload.length + 2) :: seq :: kind :: payload
  syncByte :: (body ++ le 2 (crc16 body).toNat)

/-- 11.2: the status codes of replies. -/
inductive Status where
  | ok | notYet | queueFull | unknownKind | badLength | badValue | inUse | noJob | noPort | busy | readError | saveFailed
  deriving DecidableEq, Repr

/-- 11.2: the code of a status. -/
def statusCode : Status → Byte
  | .ok => 0x00#8 | .notYet => 0x01#8 | .queueFull => 0x02#8 | .unknownKind => 0x03#8 | .badLength => 0x04#8
  | .badValue => 0x05#8 | .inUse => 0x06#8 | .noJob => 0x07#8 | .noPort => 0x08#8 | .busy => 0x09#8
  | .readError => 0x0A#8 | .saveFailed => 0x0B#8

/-- R172: the kind of the reply to a request of a kind. -/
def replyKind (kind : Byte) : Byte := if kind.toNat < 0x80 then kind + 0x80#8 else 0x80#8

/-- R172, R193: the reply frame of a request: the status, then `data` (the reply data after OK, the request's kind after
UNKNOWN KIND, nothing otherwise). -/
def replyFrame (seq kind : Byte) (st : Status) (data : List Byte) : List Byte :=
  frameOf seq (replyKind kind) (statusCode st :: data)

/-! ### The kinds of requests (11.4) -/

/-- 11.4: the code of IDENTIFY, and so on for the other requests. -/
def kIdentify : Byte := 0x01#8
/-- 11.4. -/
def kPartStatus : Byte := 0x02#8
/-- 11.4. -/
def kGetSource : Byte := 0x03#8
/-- 11.4. -/
def kSetSource : Byte := 0x04#8
/-- 11.4. -/
def kGetTarget : Byte := 0x05#8
/-- 11.4. -/
def kSetTarget : Byte := 0x06#8
/-- 11.4. -/
def kGetSettings : Byte := 0x07#8
/-- 11.4. -/
def kSetSettings : Byte := 0x08#8
/-- 11.4. -/
def kLoad : Byte := 0x09#8
/-- 11.4. -/
def kAbort : Byte := 0x0A#8
/-- 11.4. -/
def kJobStatus : Byte := 0x0B#8
/-- 11.4. -/
def kTargetLine : Byte := 0x0C#8
/-- 11.4. -/
def kPeek : Byte := 0x0D#8
/-- 11.4. -/
def kRescan : Byte := 0x0E#8
/-- 11.4. -/
def kSaveSetup : Byte := 0x0F#8
/-- 11.4. -/
def kRestart : Byte := 0x10#8

/-- R166: the kind of a DATA frame. -/
def kData : Byte := 0x20#8
/-- R166: the kind of a REPORT ACK frame. -/
def kReportAck : Byte := 0x21#8

/-- R170, 11.2: whether a kind names a request. -/
def namesRequest (kind : Byte) : Bool := 1 ≤ kind.toNat && kind.toNat ≤ 0x10

/-! ### Contents of reports (R178, R122) -/

/-- R91, R141, R178: the items of the PART report at this moment. -/
def State.partItems (s : State) : PartItems where
  startup := s.store.startup
  origin := s.store.origin
  reason := s.store.reason
  current := s.store.current
  generation := s.store.generation
  changed := s.store.changed
  saving := s.store.save.isSome
  lastSave := s.store.lastSave
  ports :=
    let f := fun p => ((s.ports.get p).state, s.outstanding p)
    ⟨f .flash0, f .flash1, f .card, f .host⟩

/-- R28, R178: the items of the target's JOB report at this moment. -/
def State.jobItems (s : State) (t : Target) : Option JobItems :=
  (s.job t).map fun j =>
    { target := t
      condition := (s.jobs.get t).condition
      origin := j.origin
      state := j.state
      pass := j.pass
      position := j.position
      phase := j.phase
      lastOutcome := j.lastOutcome
      delivered := j.delivered
      final := j.final
      version := if j.state = .delivered then (s.jobs.get t).descriptor.map (·.version) else none }

/-- R122: block numbers in ascending order. -/
def insertAscending (n : Nat) : List Nat → List Nat
  | [] => [n]
  | m :: ms => if n ≤ m then n :: m :: ms else m :: insertAscending n ms

/-- R122: the numbers of the target's wanted blocks in ascending order. -/
def State.wantedBlocks (s : State) (t : Target) : List Nat :=
  ((s.wanted.filter (·.target = t)).map (·.block)).foldr insertAscending []

/-- R122, R178: the items of the target's WANT report at this moment. -/
def State.wantItems (s : State) (t : Target) : Option WantItems :=
  (s.job t).map fun j => ⟨t, j.tag, s.wantedBlocks t⟩

/-- R179: the content of a report as it is captured at the end of an event. -/
def State.content (s : State) : ReportId → Option Content
  | .part => some (.part s.partItems)
  | .job t => (s.jobItems t).map .job
  | .want t => (s.wantItems t).map .want

/-! ### Their bytes (11.5) -/

/-- 11.5: offsets 0 to 18 of the PART STATUS record, which are the PART report. -/
def PartItems.encode (x : PartItems) : List Byte :=
  [startupCode x.startup, setupOriginCode x.origin, reasonCode x.reason, optCode copyCode x.current]
  ++ le 4 (match x.generation with | some g => g.toNat | none => 0)
  ++ [markCode x.changed, markCode x.saving, saveResultCode x.lastSave]
  ++ [Port.flash0, .flash1, .card, .host].flatMap fun p =>
      [portStateCode (x.ports.get p).1, u8 (x.ports.get p).2]

/-- 11.5: the JOB report payload, 18 bytes. -/
def JobItems.encode (x : JobItems) : List Byte :=
  [targetCode x.target, conditionCode x.condition, originCode x.origin, jobStateCode x.state]
  ++ le 2 x.pass
  ++ [optCode positionCode x.position, optCode phaseCode x.phase, optCode outcomeCode x.lastOutcome]
  ++ le 4 x.delivered
  ++ [optCode finalCode x.final]
  ++ le 4 (match x.version with | some v => v.toNat | none => 0)

/-- 11.5: the WANT report payload. -/
def WantItems.encode (x : WantItems) : List Byte :=
  [targetCode x.target, x.tag, u8 x.blocks.length] ++ x.blocks.flatMap (le 2)

/-- R178: the payload of a report. -/
def Content.encode : Content → List Byte
  | .part x => x.encode
  | .job x => x.encode
  | .want x => x.encode

/-- R178: the kind code of a report. -/
def reportKind : ReportId → Byte
  | .part => 0x40#8 | .job _ => 0x41#8 | .want _ => 0x42#8

/-- R178: the frame of a report under a report sequence. -/
def reportFrame (e : Entry) (seq : Byte) : List Byte := frameOf seq (reportKind e.id) e.content.encode

/-- 11.5: the PART STATUS reply data, 31 bytes. -/
def State.partStatus (s : State) : List Byte :=
  s.partItems.encode
  ++ [optCode targetCode (s.channels.get .a).running, u8 (s.queues.get .a).length,
      optCode targetCode (s.channels.get .b).running, u8 (s.queues.get .b).length]
  ++ le 2 s.link.lengthDiscards ++ le 2 s.link.gapDiscards ++ le 2 s.link.checkDiscards
  ++ [u8 s.reports.entries.length, markCode s.reports.quiet]

/-- 11.5: offsets 18 to 42 of the JOB STATUS reply: the delivered descriptor, or a mark that it is absent. -/
def descriptorBytes : Option Descriptor → List Byte
  | none => List.replicate 25 0#8
  | some d =>
    [1#8, positionCode d.position, portCode d.port] ++ le 4 d.version.toNat ++ le 4 d.length ++ le 4 d.check.toNat
      ++ d.label

/-- R27, 11.5: the JOB STATUS reply data. -/
def jobStatusBytes (x : JobSlot) (j : Job) : List Byte :=
  [originCode j.origin, markCode j.relaxed, optCode positionCode j.only, u8 j.passLimit, jobStateCode j.state]
  ++ le 2 j.pass
  ++ [optCode positionCode j.position, optCode phaseCode j.phase, j.tag]
  ++ le 4 j.delivered
  ++ [optCode outcomeCode j.lastOutcome, optCode finalCode j.final, markCode j.abortPending, conditionCode x.condition]
  ++ descriptorBytes x.descriptor
  ++ u8 j.candidates.length :: j.candidates.flatMap (fun c =>
      positionCode c.position :: (le 4 c.version.toNat ++ le 4 c.length))
  ++ u8 j.log.length :: j.log.flatMap fun e =>
      le 2 e.pass ++ [positionCode e.position, phaseCode e.phase, outcomeCode e.outcome]

end Sys2Proof.Machine
end

