-- ==== Sys2Proof/Machine/Reports.lean ====
section
/-! DEFINITION. The Report Queue (spec/10): placing, sending, acknowledgement, QUIET and break; and the frame of an event,
at whose end the reports it raised are captured and placed. -/

namespace Sys2Proof.Machine

/-! ### Placing (R179, R180) -/

/-- R177, R180: a new entry: WAITING, resend count 0, its timer stopped, resend due no. -/
def Entry.fresh (r : ReportId) (x : Content) : Entry := ⟨r, x, false, none, 0, none, false⟩

/-- R180: a submission replaces the content of the WAITING entry of its kind and subject, or is appended. -/
def placeEntry (r : ReportId) (x : Content) : List Entry → List Entry
  | [] => [.fresh r x]
  | e :: es => if e.id = r ∧ e.inFlight = false then { e with content := x } :: es else e :: placeEntry r x es

/-- R179, R180: the report's content is captured and placed. -/
def State.submit (s : State) (r : ReportId) : State :=
  match s.content r with
  | some x => s.updReports fun q => { q with entries := placeEntry r x q.entries }
  | none => s

/-- R179: the order of R178's table: PART before JOB before WANT, subjects in target order. -/
def tableOrder : List ReportId := .part :: (allTargets.map .job ++ allTargets.map .want)

/-- R23, R84: the order of the events that list their WANT report before their JOB report (Log 8). -/
def wantFirst : List ReportId := .part :: (allTargets.map .want ++ allTargets.map .job)

/-- R179: at the end of an event each report it raised is submitted once, in the event's order. -/
def State.flush (s : State) (order : List ReportId) : State :=
  let s1 := order.foldl (fun x r => if r ∈ s.raised then x.submit r else x) s
  { s1 with raised := [] }

/-- An event: while the reset input is held no event is taken (R145); otherwise the event acts and the reports it raised
are placed at its end. -/
def State.event (order : List ReportId) (f : State → State) (s : State) : State :=
  if s.pins.reset then s else (f { s with raised := [] }).flush order

/-- The outcome of an event in the order of R178's table. -/
def happens (f : State → State) (s : State) : Host.Outcome State Fault Refusal := .next (s.event tableOrder f)

/-- The outcome of an event that lists its WANT report first. -/
def happensWantFirst (f : State → State) (s : State) : Host.Outcome State Fault Refusal := .next (s.event wantFirst f)

/-! ### Sending (R181, R182) -/

/-- R177: the entries IN FLIGHT. -/
def ReportQueue.flying (q : ReportQueue) : List Entry := q.entries.filter (·.inFlight)

/-- R181: an entry due for a resend. -/
def Entry.isDue (e : Entry) : Bool := e.inFlight && e.due

/-- R181: whether the first send of a WAITING entry fits the window. -/
def ReportQueue.hasRoom (q : ReportQueue) : Bool := decide (q.flying.length < Config.window)

/-- The first entry for which `p` holds is changed by `f`. -/
def changeFirst (p : Entry → Bool) (f : Entry → Entry) : List Entry → List Entry
  | [] => []
  | e :: es => if p e then f e :: es else e :: changeFirst p f es

/-- R182: the sequence the next first send takes: the counter, raised once more if an entry IN FLIGHT has it. -/
def ReportQueue.nextSeq (q : ReportQueue) : Byte :=
  if q.flying.any (·.seq = some q.counter) then q.counter + 1 else q.counter

/-- R181, R182: the entry the Report Queue chooses at a start of sending, with the sequence and the frame it is sent
under, and the queue after the start. -/
def ReportQueue.start (q : ReportQueue) : Option (Byte × List Byte × ReportQueue) :=
  if q.quiet then none
  else
    match q.entries.find? (·.isDue) with
    | some e =>
      match e.seq with
      | some n =>
        some (n, reportFrame e n, { q with entries := changeFirst (·.isDue) (fun e => { e with due := false }) q.entries })
      | none => none
    | none =>
      if q.hasRoom then
        match q.entries.find? (!·.inFlight) with
        | some e =>
          let n := q.nextSeq
          some (n, reportFrame e n,
            { q with
              entries := changeFirst (!·.inFlight) (fun e => { e with inFlight := true, seq := some n }) q.entries
              counter := n + 1 })
        | none => none
      else none

/-- R181: at the end of a report frame the resend timer of its entry starts, if the entry is still IN FLIGHT, QUIET is
clear and QUIET was not entered during the frame. An entry that met QUIET during its frame has resend due yes (R187),
and its timer stays stopped (Log 14). -/
def ReportQueue.sent (q : ReportQueue) (seq : Byte) : ReportQueue :=
  { q with
    entries := q.entries.map fun e =>
      if e.inFlight ∧ e.seq = some seq ∧ q.quiet = false ∧ e.due = false then { e with timer := some Config.resendMs }
      else e }

/-! ### Acknowledgement, resend and QUIET (R184 to R187) -/

/-- R185: the IN FLIGHT entry with a sequence is removed. -/
def ReportQueue.ack (q : ReportQueue) (seq : Byte) : ReportQueue :=
  { q with entries := q.entries.filter fun e => !(e.inFlight && e.seq = some seq) }

/-- R187: a good frame ends QUIET: every entry IN FLIGHT is due for a resend with resend count 0. -/
def ReportQueue.endQuiet (q : ReportQueue) : ReportQueue :=
  if q.quiet then
    { q with quiet := false, entries := q.entries.map fun e => if e.inFlight then { e with due := true, resends := 0 } else e }
  else q

/-- R184: the entry whose resend timer runs out. -/
def Entry.expires (seq : Byte) (e : Entry) : Bool := e.inFlight && e.seq = some seq && e.timer.isSome

/-- R184, R186: a resend timer runs out: the entry is due for a resend, or after its third resend QUIET is entered and
every resend timer is stopped. -/
def ReportQueue.expire (q : ReportQueue) (seq : Byte) : ReportQueue :=
  match q.entries.find? (·.expires seq) with
  | none => q
  | some e =>
    if e.resends < Config.maxResends then
      { q with
        entries := changeFirst (·.expires seq) (fun e => { e with resends := e.resends + 1, due := true, timer := none })
          q.entries }
    else { q with quiet := true, entries := q.entries.map fun e => { e with timer := none } }

/-! ### Break (R188) -/

/-- R188: the entry returns to WAITING. -/
def Entry.returned (e : Entry) : Entry := { e with inFlight := false, seq := none, resends := 0, timer := none, due := false }

/-- R188: each IN FLIGHT entry, oldest first, is removed if its kind and subject is one of `waiting` (those of the WAITING
entries) or that of a younger IN FLIGHT entry; otherwise it returns to WAITING in its place. -/
def breakEntries (waiting : List ReportId) : List Entry → List Entry
  | [] => []
  | e :: es =>
    if e.inFlight then
      if e.id ∈ waiting ∨ es.any (fun x => x.inFlight && x.id = e.id) then breakEntries waiting es
      else e.returned :: breakEntries waiting es
    else e :: breakEntries waiting es

/-- R188: the Report Queue at a break. -/
def ReportQueue.atBreak (q : ReportQueue) : ReportQueue :=
  { q with
    quiet := false
    entries := breakEntries ((q.entries.filter (!·.inFlight)).map (·.id)) q.entries }

end Sys2Proof.Machine
end

