-- ==== Sys2Proof/Machine/Link.lean ====
section
/-! DEFINITION. The Host Link (spec/09): finding and sorting frames, accepting requests, and the replies of the Request
Handler. -/

namespace Sys2Proof.Machine

/-! ### Finding frames (R162 to R166) -/

/-- R164: a length byte with which the frame goes on. -/
def goodLength (b : Byte) : Bool := 2 ≤ b.toNat && b.toNat ≤ 242

/-- R166: the fields of a good frame. -/
structure Frame where
  seq : Byte
  kind : Byte
  payload : List Byte
  deriving DecidableEq, Repr

/-- R164: a whole frame, its sync byte first, if its frame check holds. -/
def checkFrame (bs : List Byte) : Option Frame :=
  let n := (byteAt bs 1).toNat
  if (crc16 (bytesAt bs 1 (n + 1))).toNat = ofLE (bytesAt bs (n + 2) 2)
  then some ⟨byteAt bs 2, byteAt bs 3, bytesAt bs 4 (n - 2)⟩
  else none

/-- What a byte handed to the frame receiver is (R162, R164, R166). -/
inductive ByteEvent where
  /-- It starts a frame, is discarded in HUNTING, or is appended and does not end its frame. -/
  | plain
  /-- It is a length byte out of 2–242. -/
  | badLength
  /-- It ends a frame whose check fails. -/
  | badCheck
  /-- It ends a good DATA frame. -/
  | data (f : Frame)
  /-- It ends a good REPORT ACK frame. -/
  | ack (f : Frame)
  /-- It ends a good frame on the request path. -/
  | request (f : Frame)
  deriving DecidableEq, Repr

/-- R162, R164, R166: what the byte `b` is to the receiver. -/
def Receiver.classify (x : Receiver) (b : Byte) : ByteEvent :=
  match x with
  | .hunting => .plain
  | .receiving got =>
    if got.length ≤ 1 then if goodLength b then .plain else .badLength
    else if got.length + 1 < (byteAt got 1).toNat + 4 then .plain
    else
      match checkFrame (got ++ [b]) with
      | none => .badCheck
      | some f => if f.kind = kData then .data f else if f.kind = kReportAck then .ack f else .request f

/-- R162, R163: a byte that does not end its frame. -/
def Link.appendByte (x : Link) (b : Byte) : Link :=
  match x.receiver with
  | .hunting => if b = syncByte then { x with receiver := .receiving [b], gap := some Config.gapMs } else x
  | .receiving got => { x with receiver := .receiving (got ++ [b]), gap := some Config.gapMs }

/-- R162, R164: the frame under assembly is handed on or discarded: HUNTING, the gap timer stopped. -/
def Link.hunt (x : Link) : Link := { x with receiver := .hunting, gap := none }

/-! ### Replies (R167, R169 to R171) -/

/-- R169: a reply enters the cache; the oldest leaves a cache that holds 4. -/
def Link.cacheReply (x : Link) (seq : Byte) (frame : List Byte) : Link :=
  let l := x.cache ++ [⟨seq, frame⟩]
  { x with cache := l.drop (l.length - Config.cacheDepth) }

/-- R171: a reply is appended to the reply list. -/
def Link.appendReply (x : Link) (r : Reply) : Link := { x with replies := x.replies ++ [r] }

/-- R167: a replay or a QUEUE FULL reply is appended unless the list already holds 4 or more. -/
def Link.appendIfRoom (x : Link) (frame : List Byte) : Link :=
  if x.replies.length < Config.replyRoom then x.appendReply ⟨frame, false⟩ else x

/-- R167: whether the sequence is that of a request in the queue or in service. -/
def Link.holds (x : Link) (seq : Byte) : Bool :=
  x.queue.any (·.seq = seq)
    || (match x.handler with
        | .serving r _ => r.seq = seq
        | .idle | .stopped => false)

/-- R167: a good frame on the request path is dropped, answered from the cache, refused QUEUE FULL or appended. -/
def Link.accept (x : Link) (f : Frame) : Link :=
  if x.holds f.seq then x
  else
    match x.cache.find? (·.seq = f.seq) with
    | some r => x.appendIfRoom r.frame
    | none =>
      if Config.queueDepth ≤ x.queue.length then x.appendIfRoom (replyFrame f.seq f.kind .queueFull [])
      else { x with queue := x.queue ++ [⟨f.seq, f.kind, f.payload⟩] }

/-- R170: a request completes: its reply is built, cached and listed, nothing is in service, and the handler is IDLE, or
STOPPED after an accepted RESTART. -/
def Link.respond (x : Link) (req : Request) (st : Status) (data : List Byte) (restart : Bool) : Link :=
  let frame := replyFrame req.seq req.kind st data
  let y := (x.cacheReply req.seq frame).appendReply ⟨frame, restart⟩
  { y with handler := if restart then .stopped else .idle }

/-- R170: the completion of a request. -/
def State.reply (s : State) (req : Request) (st : Status) (data : List Byte) : State :=
  s.updLink (·.respond req st data false)

/-- R170: the completion of the PEEK in service on port `p`. -/
def State.replyPeek (s : State) (p : Port) (st : Status) (data : List Byte) : State :=
  match s.link.handler with
  | .serving req (.peek q a) =>
    if q = p then s.reply req st (if st = .ok then portCode p :: (le 4 a ++ data) else []) else s
  | .serving _ (.rescan _) | .serving _ .save | .idle | .stopped => s

/-- R108, R109: the completion of the RESCAN in service on port `p`: with OK, the port's state and capacity. -/
def State.replyRescan (s : State) (p : Port) (st : Status) : State :=
  match s.link.handler with
  | .serving req (.rescan q) =>
    if q = p then
      s.reply req st
        (if st = .ok then portCode p :: portStateCode (s.ports.get p).state :: le 4 (s.ports.get p).capacity else [])
    else s
  | .serving _ (.peek _ _) | .serving _ .save | .idle | .stopped => s

/-- R154: the completion of the SAVE SETUP in service. -/
def State.replySave (s : State) (st : Status) (data : List Byte) : State :=
  match s.link.handler with
  | .serving req .save => s.reply req st data
  | .serving _ (.peek _ _) | .serving _ (.rescan _) | .idle | .stopped => s

end Sys2Proof.Machine
end

