-- ==== Sys2Proof/Machine/Saving.lean ====
section
/-! DEFINITION. The save in progress (spec/08 8.5): the writer's claim and ownership of FLASH0, the accesses of a save and
its end. -/

namespace Sys2Proof.Machine

/-- R153: whether the target copy's sector lies wholly within a capacity. -/
def sectorFits (x : Copy) (capacity : Nat) : Bool :=
  match x with
  | .a => Config.sectorBlocks ≤ capacity
  | .b => 2 * Config.sectorBlocks ≤ capacity

/-- R153: the 128 bytes the writer writes to one block of the target copy, and reads back. -/
def Save.blockBytes (v : Save) (second : Bool) : List Byte :=
  bytesAt (buildCopy v.generation v.snapshot) (if second then Config.blockBytes else 0) Config.blockBytes

/-- The save with its stage changed. -/
def State.setStage (s : State) (g : SaveStage) : State :=
  s.updStore fun x => { x with save := x.save.map fun v => { v with stage := g } }

/-- R154: the Setup Store at the end of a save. -/
def SetupStore.endSave (x : SetupStore) (v : Save) (ok : Bool) : SetupStore :=
  if ok then
    { x with
      current := some v.target
      generation := some v.generation
      changed := if v.edited then x.changed else false
      save := none
      lastSave := .ok }
  else { x with save := none, lastSave := .saveFailed }

/-- R104, R154: a save ends: the Setup Store takes the result, FLASH0 returns to READY, a PART report is queued and the
request is answered. -/
def State.endSave (s : State) (ok : Bool) : State :=
  match s.store.save with
  | none => s
  | some v =>
    let s1 := ((s.updStore (·.endSave v ok)).setPortState .flash0 .ready).raise .part
    if ok then s1.replySave .ok (copyCode v.target :: le 4 v.generation.toNat) else s1.replySave .saveFailed []

/-- R103, R152, R153: with the writer's claim waiting on a READY FLASH0 and no read outstanding, the port becomes WRITING
and the erase starts, or the save ends with SAVE FAILED if the sector does not lie within the capacity. -/
def State.writerTakes (s : State) : State :=
  match s.store.save with
  | none => s
  | some v =>
    if v.stage = .waiting ∧ (s.ports.get .flash0).state = .ready ∧ (s.ports.get .flash0).reads = [] then
      let s1 := s.setPortState .flash0 .writing
      if sectorFits v.target (s.ports.get .flash0).capacity then s1.setStage .erasing else s1.endSave false
    else s

/-- R153: an event of the writer's access in stage `g`; in any other stage the access is not under way. -/
def State.inStage (s : State) (g : SaveStage) (f : State → State) : State :=
  match s.store.save with
  | some v => if v.stage = g then f s else s
  | none => s

/-- R153: whether a block write is under way, and of which block. -/
def State.writingBlock (s : State) : Option Bool :=
  match s.store.save with
  | some v => match v.stage with
    | .writing b => some b
    | .waiting | .erasing | .verifying _ => none
  | none => none

/-- R153: whether a verify read is under way, and of which block. -/
def State.verifyingBlock (s : State) : Option Bool :=
  match s.store.save with
  | some v => match v.stage with
    | .verifying b => some b
    | .waiting | .erasing | .writing _ => none
  | none => none

end Sys2Proof.Machine
end

