-- ==== Sys2Proof/Machine/StartUp.lean ====
section
/-! DEFINITION. Power-on and start-up (spec/08 8.4, 8.6): the values after reset, the phases of start-up and the choice of
a saved copy. -/

namespace Sys2Proof.Machine

/-- R156, R159: every block takes its value after power-on reset; the pins and the waiting commands are not the part's,
and the line rate is given. -/
def State.powerOn (s : State) (rate : Fin 4) : State :=
  { State.reset with pins := s.pins, link := .reset rate, pending := s.pending }

/-- R145, R92, R95: start-up begins: both flash probes start and the presence input of the card port is sampled. -/
def State.beginStartUp (s : State) : State :=
  let s1 := (s.updStore fun x => { x with startup := .probingPorts })
  let s2 := (s1.setPortState .flash0 .probing).setPortState .flash1 .probing
  if s.pins.card then s2.setPortState .card .waking else s2

/-- R160: the rate code of the strap levels. -/
def rateCode (rate1 rate0 : Bool) : Fin 4 :=
  match rate1, rate0 with
  | false, false => 0
  | false, true => 1
  | true, false => 2
  | true, true => 3

/-- R20: a START job is created for each present auto-start target, in order T0 to T5. -/
def State.autoStart (s : State) : State :=
  allTargets.foldl
    (fun x t => if (x.record t).present && (x.record t).autoStart then x.createJob t .start false none else x) s

/-- R149: the start-up state becomes READY: a PART report is queued and the auto-start jobs are created. -/
def State.becomeReady (s : State) : State :=
  ((s.updStore fun x => { x with startup := .ready, loads := [] }).raise .part).autoStart

/-- R147: the block addresses of the start-up reads, in order. -/
def startupAddresses : List Nat := [0, 1, 32, 33]

/-- R143, R147: the bytes of a copy read at start-up, if both blocks were read and the copy is valid. -/
def validCopy (first second : Option (List Byte)) : Option (List Byte) :=
  match first, second with
  | some x, some y => if copyValid (x ++ y) then some (x ++ y) else none
  | none, _ | some _, none => none

/-- R147, R148: the Setup Store takes a chosen copy. -/
def SetupStore.choose (x : SetupStore) (which : Copy) (bs : List Byte) (reason : OriginReason) : SetupStore :=
  { x with
    setup := loadSetup bs
    origin := match which with | .a => .copyA | .b => .copyB
    reason := reason
    current := some which
    generation := some (copyGeneration bs)
    changed := x.changed || loadReplaces bs }

/-- R147: both copies are judged and one of them, or the defaults, is chosen. -/
def SetupStore.judge (x : SetupStore) (loads : List (Option (List Byte))) : SetupStore :=
  let block := fun i => (loads.getD i none)
  match validCopy (block 0) (block 1), validCopy (block 2) (block 3) with
  | some a, some b =>
    if copyGeneration a < copyGeneration b then x.choose .b b .none else x.choose .a a .none
  | some a, none => x.choose .a a .otherCopyInvalid
  | none, some b => x.choose .b b .otherCopyInvalid
  | none, none => { x with origin := .defaults, reason := .noValidCopy }

/-- R147: the reads still to be made: a read at or beyond the capacity fails without an access, the others wait for the
device. `addrs` are the addresses left. After the fourth read the copies are judged and start-up reaches READY. -/
def State.nextLoads : List Nat → State → State
  | [], s => (s.updStore fun x => x.judge x.loads).becomeReady
  | a :: rest, s =>
    if a < (s.ports.get .flash0).capacity then s
    else nextLoads rest (s.updStore fun x => { x with loads := x.loads ++ [none] })

/-- R147: the start-up read under way ends with its bytes, or fails. -/
def State.loadEnds (s : State) (data : Option (List Byte)) : State :=
  if s.store.startup = .loadingSetup then
    State.nextLoads (startupAddresses.drop (s.store.loads.length + 1))
      (s.updStore fun x => { x with loads := x.loads ++ [data] })
  else s

/-- R146: PROBING PORTS ends when neither flash port is PROBING any more. -/
def State.probesEnd (s : State) : State :=
  if s.store.startup = .probingPorts ∧ (s.ports.get .flash0).state ≠ .probing ∧ (s.ports.get .flash1).state ≠ .probing then
    if (s.ports.get .flash0).state = .ready then
      State.nextLoads startupAddresses (s.updStore fun x => { x with startup := .loadingSetup, loads := [] })
    else
      (s.updStore fun x => { x with origin := .defaults, reason := .noFlash }).becomeReady
  else s

end Sys2Proof.Machine
end

