-- ==== Sys2Proof/Machine/Ports.lean ====
section
/-! DEFINITION. Source ports (spec/05) and the wanted set (spec/06): claims answered with NO PORT, ends of probes and
wakes, grants, completions and the card's removal. -/

namespace Sys2Proof.Machine

/-! ### Claims answered with NO PORT (R92, R95, R96, R98) -/

/-- R72, R98: a waiting claim of channel `c` on port `p` is answered NO PORT, which ends its attempt. -/
def State.refuseChannel (s : State) (p : Port) (c : Chan) : State :=
  if s.claims c p then
    match (s.channels.get c).running with
    | some t => (s.updChannel c fun x => { x with claim := none, issue := x.issue + 1 }).endAttempt c t .noPort
    | none => s
  else s

/-- R107: the PEEK in service on port `p` is answered NO PORT. -/
def State.refusePeek (s : State) (p : Port) : State := s.replyPeek p .noPort []

/-- R92, R95, R96: every claim waiting on the port is answered NO PORT. -/
def State.refuseClaims (s : State) (p : Port) : State :=
  ((s.refuseChannel p .a).refuseChannel p .b).refusePeek p

/-! ### Ends of probes and wakes (R92, R95, R108, R109) -/

/-- R92, R95: a capacity is at most 16,777,216 blocks. -/
def capCapacity (n : Nat) : Nat := min n Config.maxCapacity

/-- R92, R146: a presence probe ends: READY with a capacity of 1 or more, ABSENT otherwise, when the waiting claims are
answered NO PORT; a RESCAN of the port is answered, and start-up goes on when the second probe has ended. -/
def State.probeEnds (s : State) (p : Port) (capacity : Nat) : State :=
  if (s.ports.get p).state = .probing then
    let s1 :=
      if capacity = 0 then ((s.setPortState p .absent).setCapacity p 0).refuseClaims p
      else (s.setPortState p .ready).setCapacity p (capCapacity capacity)
    (s1.replyRescan p .ok).probesEnd
  else s

/-- R95, R109: a card wake ends READY with a capacity, or FAULTED, when the waiting claims are answered NO PORT; a RESCAN
of CARD is answered. -/
def State.wakeEnds (s : State) (capacity : Option Nat) : State :=
  if (s.ports.get .card).state = .waking then
    let s1 := match capacity with
      | some n => (s.setPortState .card .ready).setCapacity .card (capCapacity n)
      | none => ((s.setPortState .card .faulted).setCapacity .card 0).refuseClaims .card
    s1.replyRescan .card .ok
  else s

/-! ### The card's removal (R96, R86) -/

/-- R86: the card's removal at a channel: its outstanding CARD reads complete with NO PORT all at once and its waiting
claim is answered NO PORT, so its attempt ends with nothing left in flight, or its drain ends. -/
def State.removeFrom (s : State) (gone : List Read) (c : Chan) : State :=
  let mine := gone.any fun r => match r.reader with
    | .chan d _ => d = c
    | .peek => false
  if mine then
    match (s.channels.get c).running with
    | none => s
    | some t =>
      match s.job t with
      | none => s
      | some j =>
        let s1 := s.updChannel c fun x => { x with slots := x.slots.map fun y => if y.isInFlight then .free else y }
        match j.state with
        | .probing | .streaming => s1.endAttempt c t .noPort
        | .draining => s1.drained c t
        | .queued | .backoff | .finishing | .delivered | .failed | .aborted => s1
  else s.refuseChannel .card c

/-- R96, R107, R109: the card port becomes EMPTY; its reads and claims end with NO PORT and a wake is abandoned. -/
def State.removeCard (s : State) : State :=
  let gone := (s.ports.get .card).reads
  let s1 := (s.setPortState .card .empty).updPort .card fun x => { x with capacity := 0, reads := [] }
  let s2 := ((s1.removeFrom gone .a).removeFrom gone .b).refusePeek .card
  s2.replyRescan .card .noPort

/-! ### Grants (R73, R94, R101, R102, R113) -/

/-- R101: the conditions of a grant other than a waiting claim. -/
def State.mayGrant (s : State) (p : Port) : Bool :=
  (s.ports.get p).state = .ready && !(p = .flash0 && s.writerClaims)
    && decide (s.outstanding p < s.settings.limits.get p)

/-- R102: the channel the arbitration mode prefers when both wait. -/
def preferred (m : ArbMode) (last : Chan) : Chan :=
  match m with
  | .aFirst => .a
  | .bFirst => .b
  | .alternate => match last with
    | .a => .b
    | .b => .a

/-- R101, R102: the channel a grant goes to, if a channel waits on the port. -/
def State.grantee (s : State) (p : Port) : Option Chan :=
  match s.claims .a p, s.claims .b p with
  | true, true => some (preferred (s.settings.modes.get p) (s.ports.get p).lastGrantee)
  | true, false => some .a
  | false, true => some .b
  | false, false => none

/-- R73, R94, R102, R113: a channel is granted: its claim becomes an IN FLIGHT slot and the issue counter rises; on HOST
a wanted entry is added and a WANT report queued; a device read starts, or completes at once with READ ERROR at or beyond
the capacity; and the next claim is placed. -/
def State.grantChannel (s : State) (p : Port) (c : Chan) : State :=
  match (s.channels.get c).running, (s.channels.get c).claim with
  | some t, some k =>
    match s.job t with
    | none => s
    | some j =>
      let s1 := (s.updChannel c fun x =>
          { x with claim := none, slots := reserve k.block x.slots, issue := k.block + 1 }).updPort p fun x =>
        { x with lastGrantee := c }
      if p = .host then
        ((s1.setWanted (s1.wanted ++ [⟨t, j.tag, k.block, 100 * s.settings.hostTimeout⟩])).raise (.want t)).placeClaim c t
      else
        let base := match j.entry with
          | some e => e.base
          | none => 0
        if (s.ports.get p).capacity ≤ base + k.block then s1.channelFails c k.block .readError
        else
          (s1.updPort p fun x => { x with reads := x.reads ++ [⟨.chan c k.block, base + k.block⟩] }).placeClaim c t
  | none, _ | some _, none => s

/-- R94, R107: the PEEK path is granted: its read starts, or completes at once with READ ERROR. -/
def State.grantPeek (s : State) (p : Port) (address : Nat) : State :=
  if (s.ports.get p).capacity ≤ address then s.replyPeek p .readError []
  else s.updPort p fun x => { x with reads := x.reads ++ [⟨.peek, address⟩] }

/-- R101: a grant of the port's arbiter: to a channel, or to the PEEK path when no channel waits. -/
def State.grantPort (s : State) (p : Port) : State :=
  if s.mayGrant p then
    match s.grantee p with
    | some c => s.grantChannel p c
    | none =>
      match s.peekClaim p with
      | some a => s.grantPeek p a
      | none => s
  else s

/-! ### Completions (R93, R97, R107) -/

/-- R76, R93, R97: the `n`-th outstanding read of a port in grant order, if it may complete now: a flash port completes
the oldest alone, the card port any; HOST has no device. -/
def State.readAt (s : State) (p : Port) (n : Nat) : Option Read :=
  match p with
  | .flash0 | .flash1 => if n = 0 then (s.ports.get p).reads[n]? else none
  | .card => (s.ports.get p).reads[n]?
  | .host => none

/-- R93, R99, R103: a read leaves the outstanding reads, its claimant acts, and the setup writer takes FLASH0 when that
was the last read it waited for. -/
def State.completeRead (s : State) (p : Port) (n : Nat) (f : Reader → State → State) : State :=
  match s.readAt p n with
  | none => s
  | some r =>
    let s1 := f r.reader (s.updPort p fun x => { x with reads := x.reads.eraseIdx n })
    if p = .flash0 then s1.writerTakes else s1

/-- R74, R107: a claimant is handed the data of its read. -/
def State.handData (p : Port) (data : List Byte) (x : Reader) (s : State) : State :=
  match x with
  | .chan c k => s.channelData c k data
  | .peek => s.replyPeek p .ok data

/-- R75, R107: a claimant is handed READ ERROR for its read. -/
def State.handError (p : Port) (x : Reader) (s : State) : State :=
  match x with
  | .chan c k => s.channelFails c k .readError
  | .peek => s.replyPeek p .readError []

/-! ### The wanted set (R115 to R118) -/

/-- R115: the fields of a well-formed DATA payload. -/
structure DataFields where
  target : Target
  tag : Byte
  block : Nat
  data : List Byte
  deriving DecidableEq, Repr

/-- R115: the form of a DATA payload: three leading fields and 1 to 128 data bytes, the target number in 0–5. -/
def parseData (payload : List Byte) : Option DataFields :=
  if 5 ≤ payload.length ∧ payload.length ≤ 132 then
    (targetOf (byteAt payload 0)).map fun t =>
      ⟨t, byteAt payload 1, ofLE (bytesAt payload 2 2), payload.drop 4⟩
  else none

/-- R116, R118: the entry of one block leaves the wanted set, its channel acts by `f`, and a WANT report is queued. -/
def State.endWanted (s : State) (t : Target) (tag : Byte) (block : Nat) (f : Chan → State → State) : State :=
  let hit := fun w : Wanted => decide (w.target = t ∧ w.tag = tag ∧ w.block = block)
  if s.wanted.any hit then
    let s1 := s.setWanted (s.wanted.filter fun w => !hit w)
    (match s1.channelOf t with
      | some c => f c s1
      | none => s1).raise (.want t)
  else s

/-- R115, R116, R117: a DATA frame completes the read of the wanted entry its key names, or is discarded. -/
def State.dataFrame (s : State) (payload : List Byte) : State :=
  match parseData payload with
  | none => s
  | some d => s.endWanted d.target d.tag d.block fun c x => x.channelData c d.block d.data

/-- R118: the timer of a wanted entry runs out: the read completes with HOST TIMEOUT. -/
def State.wantedExpires (s : State) (t : Target) (block : Nat) : State :=
  match s.wanted.find? fun w => decide (w.target = t ∧ w.block = block) with
  | none => s
  | some w => s.endWanted t w.tag block fun c x => x.channelFails c block .hostTimeout

end Sys2Proof.Machine
end

