-- ==== Sys2Proof/Machine/ChannelCommands.lean ====
section
/-! DEFINITION. The commands of the channels and the Job Table (spec/01, 04). -/

namespace Sys2Proof.Machine

/-- R70: a channel with no running job takes the head of its wait queue and starts its pass. -/
def State.takeHead (s : State) (c : Chan) : State :=
  match (s.channels.get c).running, s.queues.get c with
  | none, t :: rest => (s.updQueue c fun _ => rest).startPass c t
  | none, [] | some _, _ => s

/-- R70: CHANNEL_TAKE. -/
def execChannelTake (c : Chan) (s : State) : Host.Outcome State Fault Refusal := happens (·.takeHead c) s

/-- R17: the back-off timer runs out: the job becomes QUEUED in its channel's wait queue. -/
def State.backoffEnds (s : State) (t : Target) : State :=
  match s.job t with
  | none => s
  | some j =>
    if j.state = .backoff ∧ (s.jobs.get t).backoff.isSome then
      ((s.updSlot t fun x => { x with backoff := none }).setJobState t .queued).enterQueue t
    else s

/-- R17: BACKOFF_TIMER_EXPIRY. -/
def execBackoffTimerExpiry (t : Target) (s : State) : Host.Outcome State Fault Refusal := happens (·.backoffEnds t) s

/-- R129: a block delivery can complete while the lane is SENDING, or WAITING READY with nothing left to send. -/
def TargetPort.mayComplete (x : TargetPort) : Bool :=
  match x.block with
  | none => false
  | some b => x.lane = .sending || (x.lane = .waitingReady && b.left.isEmpty)

/-- R129, R80: the last byte of the block on the lane has been sent: the port is IDLE and the channel acts. -/
def State.deliveryEnds (s : State) (t : Target) : State :=
  if (s.lines.get t).mayComplete then
    let s1 := s.updLine t (·.stopLane)
    match s1.channelOf t with
    | some c => s1.blockDelivered c t
    | none => s1
  else s

/-- R80, R129: BLOCK_DELIVERY_COMPLETE, with the level of TDONE in the event (R132). -/
def execBlockDeliveryComplete (t : Target) (tdone : Bool) (s : State) : Host.Outcome State Fault Refusal :=
  happens (·.deliveryEnds t) (s.updPins fun x => { x with tdone := x.tdone.set t tdone })

end Sys2Proof.Machine
end

