-- ==== Sys2Proof/Machine/LinkCommands.lean ====
section
/-! DEFINITION. The commands of the link's receive and transmit sides and of the Report Queue (spec/09, 10). -/

namespace Sys2Proof.Machine

/-! ### Receiving -/

/-- R187: a good frame is made known to the Report Queue. -/
def State.goodFrame (s : State) : State := (s.updLink (·.hunt)).updReports (·.endQuiet)

/-- R115, R166: a good DATA frame goes to the Host Stream Port. -/
def State.takeData (s : State) (f : Frame) : State := s.goodFrame.dataFrame f.payload

/-- R166, R185: a good REPORT ACK goes to the Report Queue, which ignores a payload of any length but one. -/
def State.takeAck (s : State) (f : Frame) : State :=
  match f.payload with
  | [n] => s.goodFrame.updReports (·.ack n)
  | [] | _ :: _ :: _ => s.goodFrame

/-- R166, R167: a good frame of any other kind goes to the request path. -/
def State.takeRequestFrame (s : State) (f : Frame) : State := s.goodFrame.updLink (·.accept f)

/-- R164: a length byte out of 2–242 discards the frame under assembly. -/
def State.discardLength (s : State) : State :=
  s.updLink fun x => { x.hunt with lengthDiscards := countUp x.lengthDiscards }

/-- R164, R161: a frame is discarded for its check, or for a character fault. -/
def State.discardCheck (s : State) : State :=
  s.updLink fun x => { x.hunt with checkDiscards := countUp x.checkDiscards }

/-- R162, R164, R166: a byte handed to the frame receiver, whatever it is there. -/
def State.receiveByte (b : Byte) (s : State) : State :=
  match s.link.receiver.classify b with
  | .plain => s.updLink (·.appendByte b)
  | .badLength => s.discardLength
  | .badCheck => s.discardCheck
  | .data f => s.takeData f
  | .ack f => s.takeAck f
  | .request f => s.takeRequestFrame f

/-- R161, R162: BYTE_RECEIVED. Every byte is taken here; a byte that ends or discards its frame acts as its own row
does (Log 13). -/
def execByteReceived (b : Byte) (s : State) : Host.Outcome State Fault Refusal := happens (·.receiveByte b) s

/-- R116: DATA_FRAME: the byte that ends a good DATA frame. -/
def execDataFrame (b : Byte) (s : State) : Host.Outcome State Fault Refusal :=
  happens (fun s => match s.link.receiver.classify b with
    | .data f => s.takeData f
    | .plain | .badLength | .badCheck | .ack _ | .request _ => s) s

/-- R167: REQUEST_FRAME: the byte that ends a good frame on the request path. -/
def execRequestFrame (b : Byte) (s : State) : Host.Outcome State Fault Refusal :=
  happens (fun s => match s.link.receiver.classify b with
    | .request f => s.takeRequestFrame f
    | .plain | .badLength | .badCheck | .ack _ | .data _ => s) s

/-- R185: REPORT_ACK: the byte that ends a good REPORT ACK frame. -/
def execReportAck (b : Byte) (s : State) : Host.Outcome State Fault Refusal :=
  happens (fun s => match s.link.receiver.classify b with
    | .ack f => s.takeAck f
    | .plain | .badLength | .badCheck | .data _ | .request _ => s) s

/-- R164: FRAME_LENGTH_DISCARD. -/
def execFrameLengthDiscard (b : Byte) (s : State) : Host.Outcome State Fault Refusal :=
  happens (fun s => match s.link.receiver.classify b with
    | .badLength => s.discardLength
    | .plain | .badCheck | .data _ | .ack _ | .request _ => s) s

/-- R164: FRAME_CHECK_DISCARD. -/
def execFrameCheckDiscard (b : Byte) (s : State) : Host.Outcome State Fault Refusal :=
  happens (fun s => match s.link.receiver.classify b with
    | .badCheck => s.discardCheck
    | .plain | .badLength | .data _ | .ack _ | .request _ => s) s

/-- R161: CHARACTER_FAULT. In HUNTING it is ignored; in RECEIVING it discards the frame as a check discard. -/
def execCharacterFault (s : State) : Host.Outcome State Fault Refusal :=
  happens (fun s => match s.link.receiver with
    | .hunting => s
    | .receiving _ => s.discardCheck) s

/-- R163: GAP_TIMER_EXPIRY. -/
def execGapTimerExpiry (s : State) : Host.Outcome State Fault Refusal :=
  happens (fun s =>
    if s.link.gap.isSome then s.updLink fun x => { x.hunt with gapDiscards := countUp x.gapDiscards } else s) s

/-- R174, R188: BREAK. -/
def execBreak (s : State) : Host.Outcome State Fault Refusal :=
  happens (fun s => (s.updLink fun x => { x.hunt with cache := [] }).updReports (·.atBreak)) s

/-! ### Sending -/

/-- R173, R181: the idle transmitter starts the oldest waiting reply, or else the report the Report Queue chooses. -/
def State.startSending (s : State) : State :=
  match s.link.tx, s.link.replies with
  | .idle, r :: _ => s.updLink fun x => { x with tx := .reply r.frame }
  | .idle, [] =>
    match s.reports.start with
    | some (n, frame, q) => (s.updLink fun x => { x with tx := .report n frame }).updReports fun _ => q
    | none => s
  | .reply _, _ | .report _ _, _ => s

/-- R173: START_OF_SENDING. -/
def execStartOfSending (s : State) : Host.Outcome State Fault Refusal := happens State.startSending s

/-- R173, R156, R181: the last byte of a frame has been sent: the transmitter is IDLE; a reply leaves the reply list, and
that of a RESTART sets off the power-on sequence; a report's resend timer starts. -/
def State.endSending (s : State) : State :=
  match s.link.tx with
  | .idle => s
  | .reply _ =>
    match s.link.replies with
    | r :: rest =>
      if r.restart then (s.powerOn s.link.rate).beginStartUp
      else s.updLink fun x => { x with tx := .idle, replies := rest }
    | [] => s.updLink fun x => { x with tx := .idle }
  | .report n _ => (s.updLink fun x => { x with tx := .idle }).updReports (·.sent n)

/-- R173: FRAME_SENT. -/
def execFrameSent (s : State) : Host.Outcome State Fault Refusal := happens State.endSending s

/-- R184: RESEND_TIMER_EXPIRY. -/
def execResendTimerExpiry (seq : Byte) (s : State) : Host.Outcome State Fault Refusal :=
  happens (·.updReports (·.expire seq)) s

end Sys2Proof.Machine
end

