-- ==== Sys2Proof/Machine/PortCommands.lean ====
section
/-! DEFINITION. The commands of the source ports (spec/05) and of the host stream's timers (spec/06). -/

namespace Sys2Proof.Machine

/-- R92: FLASH_PROBE_ANSWER. An answer that finds no probe running belongs to none and is ignored. -/
def execFlashProbeAnswer (p : Port) (capacity : Nat) (s : State) : Host.Outcome State Fault Refusal :=
  happens (·.probeEnds p capacity) s

/-- R92: FLASH_PROBE_TIMEOUT. The port becomes ABSENT with capacity 0. -/
def execFlashProbeTimeout (p : Port) (s : State) : Host.Outcome State Fault Refusal :=
  happens (·.probeEnds p 0) s

/-- R95: the presence input asserts while the port is EMPTY: a wake starts. -/
def State.insertCard (s : State) : State :=
  if (s.ports.get .card).state = .empty then s.setPortState .card .waking else s

/-- R95: CARD_INSERT. The input asserts only where it was deasserted; under reset only the level changes (R145). -/
def execCardInsert (s : State) : Host.Outcome State Fault Refusal :=
  if s.pins.card then .next s else happens State.insertCard (s.updPins fun x => { x with card := true })

/-- R95: CARD_WAKE_COMPLETE. -/
def execCardWakeComplete (capacity : Nat) (s : State) : Host.Outcome State Fault Refusal :=
  happens (·.wakeEnds (some capacity)) s

/-- R95: CARD_WAKE_ERROR. -/
def execCardWakeError (s : State) : Host.Outcome State Fault Refusal := happens (·.wakeEnds none) s

/-- R95: CARD_WAKE_TIMEOUT. -/
def execCardWakeTimeout (s : State) : Host.Outcome State Fault Refusal := happens (·.wakeEnds none) s

/-- R96: CARD_REMOVE. The input deasserts only where it was asserted; under reset only the level changes (R145). -/
def execCardRemove (s : State) : Host.Outcome State Fault Refusal :=
  if s.pins.card then happens State.removeCard (s.updPins fun x => { x with card := false }) else .next s

/-- R101: GRANT. -/
def execGrant (p : Port) (s : State) : Host.Outcome State Fault Refusal := happens (·.grantPort p) s

/-- R93, R97: READ_COMPLETE. -/
def execReadComplete (p : Port) (n : Nat) (data : List Byte) (s : State) : Host.Outcome State Fault Refusal :=
  happens (fun s => if data.length = Config.blockBytes then s.completeRead p n (State.handData p data) else s) s

/-- R93, R97: READ_DEVICE_ERROR. -/
def execReadDeviceError (p : Port) (n : Nat) (s : State) : Host.Outcome State Fault Refusal :=
  happens (·.completeRead p n (State.handError p)) s

/-- R93, R97: READ_TIMER_EXPIRY. -/
def execReadTimerExpiry (p : Port) (n : Nat) (s : State) : Host.Outcome State Fault Refusal :=
  happens (·.completeRead p n (State.handError p)) s

/-- R118: HOST_BLOCK_TIMER_EXPIRY. -/
def execHostBlockTimerExpiry (t : Target) (block : Nat) (s : State) : Host.Outcome State Fault Refusal :=
  happens (·.wantedExpires t block) s

end Sys2Proof.Machine
end

