-- ==== Sys2Proof/Machine/RequestCommands.lean ====
section
/-! DEFINITION. The requests (spec/09 9.6 and each request's own rule). Each command is the event in which the Request
Handler takes the head of its queue (R170), so what the request carries is read from the queue. -/

namespace Sys2Proof.Machine

/-! ### The take and the checks every request shares (R170, R150, R191) -/

/-- R170: an IDLE handler takes the head of a queue while fewer than 4 replies wait. The command of one kind of request
takes a head that `pick` accepts; with any other head it is not the event that happens. -/
def State.takeRequest (pick : Request → Bool) (serve : Request → State → State) (s : State) : State :=
  if s.link.handler = .idle ∧ s.link.replies.length < Config.replyRoom then
    match s.link.queue with
    | r :: rest => if pick r then serve r (s.updLink fun x => { x with queue := rest }) else s
    | [] => s
  else s

/-- R150: before READY a gated request is answered NOT YET, before its payload is checked. -/
def State.gated (f : Request → State → State) (r : Request) (s : State) : State :=
  if s.store.startup = .ready then f r s else s.reply r .notYet []

/-- R191: a payload of any other length is answered BAD LENGTH. -/
def State.sized (n : Nat) (f : Request → State → State) (r : Request) (s : State) : State :=
  if r.payload.length = n then f r s else s.reply r .badLength []

/-- R192: a request with a field out of its range is answered BAD VALUE. -/
def State.parsed {α : Type} (x : Option α) (f : α → State) (r : Request) (s : State) : State :=
  match x with
  | some a => f a
  | none => s.reply r .badValue []

/-- A request of one kind, gated and sized (R170, R150, R191). -/
def State.request (kind : Byte) (n : Nat) (f : Request → State → State) : State → State :=
  State.takeRequest (·.kind = kind) (State.gated (State.sized n f))

/-! ### Requests of the link (R175, R176) -/

/-- R175: the IDENTIFY reply data. -/
def State.identity (s : State) : List Byte :=
  le 2 Config.vendorCode ++ le 2 Config.partCode
    ++ [u8 Config.revision, startupCode s.store.startup, u8 s.link.rate.val]

/-- R175: IDENTIFY, served in every start-up state. -/
def execIdentify (s : State) : Host.Outcome State Fault Refusal :=
  happens (State.takeRequest (·.kind = kIdentify) (State.sized 0 fun r s => s.reply r .ok s.identity)) s

/-- R176: PART STATUS, served in every start-up state. -/
def execPartStatus (s : State) : Host.Outcome State Fault Refusal :=
  happens (State.takeRequest (·.kind = kPartStatus) (State.sized 0 fun r s => s.reply r .ok s.partStatus)) s

/-- R170, R150: UNKNOWN_KIND: a kind that names no request. -/
def execUnknownKind (s : State) : Host.Outcome State Fault Refusal :=
  happens (State.takeRequest (fun r => !namesRequest r.kind)
    (State.gated fun r s => s.reply r .unknownKind [r.kind])) s

/-! ### The source list (R31 to R33) -/

/-- R31: GET SOURCE. -/
def execGetSource (s : State) : Host.Outcome State Fault Refusal :=
  happens (State.request kGetSource 1 fun r s =>
    s.parsed (positionOf (byteAt r.payload 0))
      (fun p => s.reply r .ok (positionCode p :: (s.source p).encode)) r) s

/-- R32: the fields of SET SOURCE, all of them in range. -/
def parseSetSource (payload : List Byte) : Option (Position × SourceEntry) :=
  match positionOf (byteAt payload 0), SourceEntry.parse (payload.drop 1) with
  | some p, some e => some (p, e)
  | none, _ | some _, none => none

/-- R33: the named entry of the live setup is replaced. -/
def State.setSource (s : State) (p : Position) (e : SourceEntry) : State :=
  s.updStore fun x => x.edit { x.setup with sources := x.setup.sources.set p e }

/-- R32, R33: SET SOURCE. -/
def execSetSource (s : State) : Host.Outcome State Fault Refusal :=
  happens (State.request kSetSource 7 fun r s =>
    s.parsed (parseSetSource r.payload) (fun x => (s.setSource x.1 x.2).reply r .ok []) r) s

/-! ### Target records (R2 to R4) -/

/-- R2: GET TARGET. -/
def execGetTarget (s : State) : Host.Outcome State Fault Refusal :=
  happens (State.request kGetTarget 1 fun r s =>
    s.parsed (targetOf (byteAt r.payload 0))
      (fun t => s.reply r .ok (targetCode t :: (s.record t).encode)) r) s

/-- R3: the fields of SET TARGET, all of them in range. -/
def parseSetTarget (payload : List Byte) : Option (Target × TargetRecord) :=
  match targetOf (byteAt payload 0), TargetRecord.parse (payload.drop 1) with
  | some t, some x => some (t, x)
  | none, _ | some _, none => none

/-- R4: the whole record of the live setup is replaced. -/
def State.setTarget (s : State) (t : Target) (x : TargetRecord) : State :=
  s.updStore fun y => y.edit { y.setup with targets := y.setup.targets.set t x }

/-- R3, R4: SET TARGET. -/
def execSetTarget (s : State) : Host.Outcome State Fault Refusal :=
  happens (State.request kSetTarget 22 fun r s =>
    s.parsed (parseSetTarget r.payload)
      (fun x => if s.busy x.1 then s.reply r .inUse [] else (s.setTarget x.1 x.2).reply r .ok []) r) s

/-! ### Settings (R110, R111, R16) -/

/-- R110: GET SETTINGS. -/
def execGetSettings (s : State) : Host.Outcome State Fault Refusal :=
  happens (State.request kGetSettings 0 fun r s => s.reply r .ok s.settings.encode) s

/-- R16: whether a class's channel would change while some target has a non-final job of that class. -/
def State.moves (s : State) (x : Settings) : Bool :=
  allTargets.any fun t =>
    s.busy t && decide (x.classMap (s.record t).cls ≠ s.settings.classMap (s.record t).cls)

/-- R111: every settings item of the live setup is replaced. -/
def State.setSettings (s : State) (x : Settings) : State :=
  s.updStore fun y => y.edit { y.setup with settings := x }

/-- R111, R16: SET SETTINGS. -/
def execSetSettings (s : State) : Host.Outcome State Fault Refusal :=
  happens (State.request kSetSettings 13 fun r s =>
    s.parsed (Settings.parse r.payload)
      (fun x => if s.moves x then s.reply r .inUse [] else (s.setSettings x).reply r .ok []) r) s

/-! ### Jobs (R18, R19, R22 to R24, R27) -/

/-- R18: the fields of LOAD. -/
structure LoadFields where
  target : Target
  relaxed : Bool
  only : Option Position
  deriving DecidableEq, Repr

/-- R18 step 2: the fields of LOAD, all of them in range. -/
def parseLoad (payload : List Byte) : Option LoadFields :=
  match targetOf (byteAt payload 0), markOf (byteAt payload 1), onlyOf (byteAt payload 2) with
  | some t, some relaxed, some only => some ⟨t, relaxed, only⟩
  | none, _, _ | some _, none, _ | some _, some _, none => none

/-- R19: the LOAD reply data: the new job's state, its final outcome and its attempt tag. -/
def State.loadReply (s : State) (t : Target) : List Byte :=
  match s.job t with
  | some j => [jobStateCode j.state, optCode finalCode j.final, j.tag]
  | none => []

/-- R18, R19: LOAD past its value checks. -/
def State.load (s : State) (r : Request) (x : LoadFields) : State :=
  if !(s.record x.target).present then s.reply r .badValue []
  else if s.busy x.target then s.reply r .inUse []
  else
    let s1 := s.createJob x.target .host x.relaxed x.only
    s1.reply r .ok (s1.loadReply x.target)

/-- R18, R19: LOAD. -/
def execLoad (s : State) : Host.Outcome State Fault Refusal :=
  happens (State.request kLoad 3 fun r s => s.parsed (parseLoad r.payload) (s.load r) r) s

/-- R22: a QUEUED or BACKOFF job is aborted: it leaves its wait queue, or its back-off timer is stopped. -/
def State.abortWaiting (s : State) (t : Target) : State :=
  ((s.leaveQueues t).updSlot t fun x => { x with backoff := none }).finishJob t .aborted .aborted

/-- R24: ABORT to a DRAINING job sets abort pending. A JOB report follows its state change, so none is queued here. -/
def State.abortDraining (s : State) (t : Target) : State := s.updJob t fun j => { j with abortPending := true }

/-- R22, R23, R24: ABORT past its value checks. -/
def State.abort (s : State) (r : Request) (t : Target) : State :=
  match s.job t with
  | none => s.reply r .noJob []
  | some j =>
    match j.state with
    | .delivered | .failed | .aborted => s.reply r .noJob []
    | .queued | .backoff => (s.abortWaiting t).reply r .ok [jobStateCode .aborted]
    | .draining => (s.abortDraining t).reply r .ok [jobStateCode .draining]
    | .probing | .streaming | .finishing =>
      match s.channelOf t with
      | none => s.reply r .noJob []
      | some c =>
        let s1 := s.abortRunning c t
        s1.reply r .ok (match s1.job t with
          | some k => [jobStateCode k.state]
          | none => [])

/-- R22: ABORT. R23 lists the wanted set before the JOB report. -/
def execAbort (s : State) : Host.Outcome State Fault Refusal :=
  happensWantFirst (State.request kAbort 1 fun r s => s.parsed (targetOf (byteAt r.payload 0)) (s.abort r) r) s

/-- R27: JOB STATUS past its value checks. -/
def State.jobStatus (s : State) (r : Request) (t : Target) : State :=
  match s.job t with
  | none => s.reply r .noJob []
  | some j => s.reply r .ok (jobStatusBytes (s.jobs.get t) j)

/-- R27: JOB STATUS. -/
def execJobStatus (s : State) : Host.Outcome State Fault Refusal :=
  happens (State.request kJobStatus 1 fun r s => s.parsed (targetOf (byteAt r.payload 0)) (s.jobStatus r) r) s

/-! ### TARGET LINE (R137 to R139) -/

/-- R137: the actions of TARGET LINE. -/
inductive LineAction where
  | hold | release | leave
  deriving DecidableEq, Repr

/-- R190: the action of a code. -/
def lineActionOf (b : Byte) : Option LineAction :=
  if b = 0#8 then some .hold else if b = 1#8 then some .release else if b = 2#8 then some .leave else none

/-- The action a TARGET LINE payload names, if it has the length of one and names one. -/
def payloadAction (payload : List Byte) : Option LineAction :=
  if payload.length = 2 then lineActionOf (byteAt payload 1) else none

/-- R138, R139: the action is taken on the target. -/
def State.lineAct (s : State) (t : Target) : LineAction → State
  | .hold => (s.assertLine t).setCondition t .none
  | .release => s.releaseLine t
  | .leave => s

/-- R137: the TARGET LINE reply data, as they stand after the action. -/
def State.lineReply (s : State) (t : Target) : List Byte :=
  [lineCode (s.lines.get t).line, markCode (s.pins.trdy.get t), markCode (s.pins.tdone.get t),
    markCode (s.pins.tflt.get t), conditionCode (s.jobs.get t).condition]

/-- R137: TARGET LINE past its length check, with the level of TDONE as the port sees it. -/
def State.lineRequest (tdone : Bool) (r : Request) (s : State) : State :=
  match targetOf (byteAt r.payload 0), lineActionOf (byteAt r.payload 1) with
  | some t, some x =>
    if s.busy t then s.reply r .inUse []
    else
      let s1 := (s.updPins fun y => { y with tdone := y.tdone.set t tdone }).lineAct t x
      s1.reply r .ok (s1.lineReply t)
  | none, _ | some _, none => s.reply r .badValue []

/-- R137: the take of a TARGET LINE request by the row of action `x`. A request that names no action, which is refused
whichever row takes it, may be taken by each of the three (Log 10). -/
def State.lineCommand (x : LineAction) (tdone : Bool) : State → State :=
  State.takeRequest
    (fun r => r.kind = kTargetLine && (payloadAction r.payload = some x || (payloadAction r.payload).isNone))
    (State.gated (State.sized 2 (State.lineRequest tdone)))

/-- R138: TARGET_LINE_HOLD. -/
def execTargetLineHold (tdone : Bool) (s : State) : Host.Outcome State Fault Refusal :=
  happens (State.lineCommand .hold tdone) s

/-- R139: TARGET_LINE_RELEASE. -/
def execTargetLineRelease (tdone : Bool) (s : State) : Host.Outcome State Fault Refusal :=
  happens (State.lineCommand .release tdone) s

/-- R139: TARGET_LINE_LEAVE. -/
def execTargetLineLeave (tdone : Bool) (s : State) : Host.Outcome State Fault Refusal :=
  happens (State.lineCommand .leave tdone) s

/-! ### Ports (R106 to R109) -/

/-- R170: the request stays in service while its work goes on. -/
def State.serve (s : State) (r : Request) (w : Work) : State := s.updLink fun x => { x with handler := .serving r w }

/-- R106: the fields of PEEK, all of them in range: a flash or card port and a block address. -/
def parsePeek (payload : List Byte) : Option (Port × Nat) :=
  match portOf (byteAt payload 0) with
  | some .host | none => none
  | some p =>
    let a := ofLE (bytesAt payload 1 4)
    if a ≤ Config.maxAddress then some (p, a) else none

/-- R106, R107, R98: PEEK places its claim, which a port that refuses answers at once with NO PORT. -/
def State.peek (s : State) (r : Request) (p : Port) (a : Nat) : State :=
  let s1 := s.serve r (.peek p a)
  if s1.refuses p then s1.refusePeek p else s1

/-- R106: PEEK. -/
def execPeek (s : State) : Host.Outcome State Fault Refusal :=
  happens (State.request kPeek 5 fun r s => s.parsed (parsePeek r.payload) (fun x => s.peek r x.1 x.2) r) s

/-- R108: the port of a RESCAN, HOST being out of range. -/
def parseRescan (payload : List Byte) : Option Port :=
  match portOf (byteAt payload 0) with
  | some .host | none => none
  | some p => some p

/-- R108, R109: whether the port has a read outstanding or a claim waiting. -/
def State.portInUse (s : State) (p : Port) : Bool :=
  !(s.ports.get p).reads.isEmpty || s.claims .a p || s.claims .b p

/-- R108, R109: RESCAN past its value checks. -/
def State.rescan (s : State) (r : Request) (p : Port) : State :=
  match p with
  | .flash0 | .flash1 =>
    if s.portInUse p then s.reply r .inUse [] else (s.setPortState p .probing).serve r (.rescan p)
  | .card =>
    match (s.ports.get p).state with
    | .empty => s.reply r .noPort []
    | .waking => s.reply r .busy []
    | .ready | .faulted | .absent | .probing | .writing =>
      if s.portInUse p then s.reply r .inUse []
      else ((s.setPortState p .waking).setCapacity p 0).serve r (.rescan p)
  | .host => s.reply r .badValue []

/-- R108, R109: RESCAN. -/
def execRescan (s : State) : Host.Outcome State Fault Refusal :=
  happens (State.request kRescan 1 fun r s => s.parsed (parseRescan r.payload) (s.rescan r) r) s

/-! ### SAVE SETUP and RESTART (R151, R156) -/

/-- R151: the target copy of a save: the copy that is not the current copy. -/
def otherCopy : Option Copy → Copy
  | some .a => .b
  | some .b | none => .a

/-- R151: the new generation. -/
def nextGeneration : Option Word32 → Word32
  | some g => g + 1
  | none => 1#32

/-- R151, R152: a save starts: snapshot, target copy, new generation, mark cleared, and the writer's claim placed. -/
def State.startSave (s : State) (r : Request) : State :=
  ((s.updStore fun x =>
      { x with save := some ⟨x.setup, otherCopy x.current, nextGeneration x.generation, false, .waiting⟩ }).serve r
    .save).writerTakes

/-- R151: SAVE SETUP past its length check. -/
def State.saveSetup (s : State) (r : Request) : State :=
  if s.store.generation = some 0xFFFFFFFF#32 then s.reply r .badValue []
  else if (s.ports.get .flash0).state = .absent then s.reply r .noPort []
  else s.startSave r

/-- R151: SAVE SETUP. -/
def execSaveSetup (s : State) : Host.Outcome State Fault Refusal :=
  happens (State.request kSaveSetup 0 fun r s => s.saveSetup r) s

/-- R156: RESTART, served in every start-up state: OK, and the handler stops. -/
def execRestart (s : State) : Host.Outcome State Fault Refusal :=
  happens (State.takeRequest (·.kind = kRestart)
    (State.sized 0 fun r s => s.updLink (·.respond r .ok [] true))) s

end Sys2Proof.Machine
end

