-- ==== Sys2Proof/Machine/ResetCommands.lean ====
section
/-! DEFINITION. The commands of reset and start-up (spec/08): RESET_ASSERT, RESET_DEASSERT and the start-up reads. -/

namespace Sys2Proof.Machine

/-- R156, R145: RESET_ASSERT. Every block takes its value after power-on reset and holds it while the input stays
asserted. -/
def execResetAssert (s : State) : Host.Outcome State Fault Refusal :=
  .next ((s.powerOn 0).updPins fun x => { x with reset := true })

/-- R145, R160: RESET_DEASSERT. The straps are sampled and start-up begins. The input can deassert only while it is
asserted. -/
def execResetDeassert (rate1 rate0 : Bool) (s : State) : Host.Outcome State Fault Refusal :=
  if s.pins.reset then
    happens State.beginStartUp
      ((s.updPins fun x => { x with reset := false }).updLink fun x => { x with rate := rateCode rate1 rate0 })
  else .next s

/-- R147: STARTUP_READ_COMPLETE. -/
def execStartupReadComplete (data : List Byte) (s : State) : Host.Outcome State Fault Refusal :=
  happens (fun s => if data.length = Config.blockBytes then s.loadEnds (some data) else s) s

/-- R147: STARTUP_READ_ERROR. A failed read makes its copy invalid, and the remaining reads are still made. -/
def execStartupReadError (s : State) : Host.Outcome State Fault Refusal := happens (·.loadEnds none) s

/-- R147: STARTUP_READ_TIMEOUT. -/
def execStartupReadTimeout (s : State) : Host.Outcome State Fault Refusal := happens (·.loadEnds none) s

end Sys2Proof.Machine
end

