-- ==== Sys2Proof/Machine/SaveCommands.lean ====
section
/-! DEFINITION. The commands of a save's device accesses (spec/08, R153, R154). -/

namespace Sys2Proof.Machine

/-- R153: SAVE_ERASE_DONE. The write of the copy's first block begins. -/
def execSaveEraseDone (s : State) : Host.Outcome State Fault Refusal :=
  happens (·.inStage .erasing (·.setStage (.writing false))) s

/-- R153: SAVE_ERASE_ERROR. -/
def execSaveEraseError (s : State) : Host.Outcome State Fault Refusal := happens (·.inStage .erasing (·.endSave false)) s

/-- R153: SAVE_ERASE_TIMEOUT. -/
def execSaveEraseTimeout (s : State) : Host.Outcome State Fault Refusal := happens (·.inStage .erasing (·.endSave false)) s

/-- R153: SAVE_WRITE_DONE. The second block follows the first, and the verify follows the second. -/
def execSaveWriteDone (s : State) : Host.Outcome State Fault Refusal :=
  happens (fun s => match s.writingBlock with
    | some false => s.setStage (.writing true)
    | some true => s.setStage (.verifying false)
    | none => s) s

/-- R153: a failure of the block write under way ends the save. -/
def State.failWrite (s : State) : State := if s.writingBlock.isSome then s.endSave false else s

/-- R153: SAVE_WRITE_ERROR. -/
def execSaveWriteError (s : State) : Host.Outcome State Fault Refusal := happens State.failWrite s

/-- R153: SAVE_WRITE_TIMEOUT. -/
def execSaveWriteTimeout (s : State) : Host.Outcome State Fault Refusal := happens State.failWrite s

/-- R153, R154: a verify read returns its block, which is compared with what was written. -/
def State.verifyBlock (s : State) (data : List Byte) : State :=
  match s.store.save, s.verifyingBlock with
  | some v, some second =>
    if data = v.blockBytes second then
      if second then s.endSave true else s.setStage (.verifying true)
    else s.endSave false
  | none, _ | some _, none => s

/-- R153: SAVE_VERIFY_READ_DONE. -/
def execSaveVerifyReadDone (data : List Byte) (s : State) : Host.Outcome State Fault Refusal :=
  happens (fun s => if data.length = Config.blockBytes then s.verifyBlock data else s) s

/-- R153: a failure of the verify read under way ends the save. -/
def State.failVerify (s : State) : State := if s.verifyingBlock.isSome then s.endSave false else s

/-- R153: SAVE_VERIFY_READ_ERROR. -/
def execSaveVerifyReadError (s : State) : Host.Outcome State Fault Refusal := happens State.failVerify s

/-- R153: SAVE_VERIFY_TIMEOUT. -/
def execSaveVerifyTimeout (s : State) : Host.Outcome State Fault Refusal := happens State.failVerify s

end Sys2Proof.Machine
end

