-- ==== Sys2Proof/Machine/TargetCommands.lean ====
section
/-! DEFINITION. The commands of the Target Ports (spec/07): the target's inputs and the port's timers. -/

namespace Sys2Proof.Machine

/-- R129: TRDY asserts while the lane is WAITING READY: the ready timer stops and sending resumes. -/
def TargetPort.trdyAsserts (x : TargetPort) : TargetPort :=
  if x.lane = .waitingReady then { x with lane := .sending, ready := none } else x

/-- R129: TRDY_ASSERT. -/
def execTrdyAssert (t : Target) (s : State) : Host.Outcome State Fault Refusal :=
  happens (·.updLine t (·.trdyAsserts)) (s.updPins fun x => { x with trdy := x.trdy.set t true })

/-- R129, R130: TRDY deasserts while the lane is SENDING: a byte under way is finished, `left` bytes are still unsent, and
the lane becomes WAITING READY with the ready timer started. No byte leaves the lane where none was begun since it last
waited, so `left` may be all that were unsent then; it is never more (Log 5). -/
def TargetPort.trdyDeasserts (x : TargetPort) (left : Nat) (r : TargetRecord) : TargetPort :=
  if x.lane = .sending then
    { x with
      lane := .waitingReady
      ready := some (10 * r.readyTimeout)
      block := x.block.map fun b => { b with left := b.left.drop (b.left.length - left) } }
  else x

/-- R129: TRDY_DEASSERT. Where TRDY was deasserted already there is no edge. -/
def execTrdyDeassert (t : Target) (left : Nat) (s : State) : Host.Outcome State Fault Refusal :=
  happens (fun s => s.updLine t (·.trdyDeasserts left (s.record t)))
    (s.updPins fun x => { x with trdy := x.trdy.set t false })

/-- R130: the ready timer runs out: the delivery is stopped and the channel ends the attempt with READY TIMEOUT. -/
def State.readyExpires (s : State) (t : Target) : State :=
  if (s.lines.get t).ready.isSome then
    let s1 := s.updLine t (·.stopLane)
    match s1.channelOf t with
    | some c => s1.endAttempt c t .readyTimeout
    | none => s1
  else s

/-- R130: READY_TIMER_EXPIRY. -/
def execReadyTimerExpiry (t : Target) (s : State) : Host.Outcome State Fault Refusal :=
  happensWantFirst (·.readyExpires t) s

/-- R128: the pulse timer runs out: a RELEASING line becomes RELEASED. -/
def TargetPort.pulseExpires (x : TargetPort) (tflt trdy : Bool) (r : TargetRecord) : TargetPort :=
  if x.pulse.isSome then
    let y := { x with pulse := none }
    if x.line = .releasing then y.becomeReleased tflt trdy r else y
  else x

/-- R128: PULSE_TIMER_EXPIRY. -/
def execPulseTimerExpiry (t : Target) (s : State) : Host.Outcome State Fault Refusal :=
  happens (fun s => s.updLine t (·.pulseExpires (s.pins.tflt.get t) (s.pins.trdy.get t) (s.record t))) s

/-- R132, R133: TDONE is taken for a job in FINISHING, which becomes DELIVERED. -/
def State.tdoneTaken (s : State) (t : Target) : State :=
  match s.channelOf t, s.job t with
  | some c, some j => if j.state = .finishing then s.deliver c t else s
  | none, _ | some _, none => s

/-- R133: TDONE_ASSERT. -/
def execTdoneAssert (t : Target) (s : State) : Host.Outcome State Fault Refusal :=
  happens (·.tdoneTaken t) (s.updPins fun x => { x with tdone := x.tdone.set t true })

/-- R133: the done timer runs out: the attempt ends with DONE TIMEOUT. -/
def State.doneExpires (s : State) (t : Target) : State :=
  if (s.lines.get t).done.isSome then
    let s1 := s.updLine t fun x => { x with done := none }
    match s1.channelOf t with
    | some c => s1.endAttempt c t .doneTimeout
    | none => s1
  else s

/-- R133: DONE_TIMER_EXPIRY. -/
def execDoneTimerExpiry (t : Target) (s : State) : Host.Outcome State Fault Refusal := happens (·.doneExpires t) s

/-- R134: TFLT asserts: the fault is taken in the event if the line is RELEASED, and is not sampled otherwise. -/
def State.tfltAsserts (s : State) (t : Target) : State :=
  if (s.lines.get t).line = .released then s.takeFault t else s

/-- R134: TFLT_ASSERT. Where TFLT was asserted already there is no edge. -/
def execTfltAssert (t : Target) (s : State) : Host.Outcome State Fault Refusal :=
  if s.pins.tflt.get t then .next s
  else happensWantFirst (·.tfltAsserts t) (s.updPins fun x => { x with tflt := x.tflt.set t true })

/-- R134: TFLT_DEASSERT. Fault take pending becomes no. -/
def execTfltDeassert (t : Target) (s : State) : Host.Outcome State Fault Refusal :=
  happens (·.updLine t fun x => { x with faultPending := false })
    (s.updPins fun x => { x with tflt := x.tflt.set t false })

/-- R134: a fault left pending by a release is taken. -/
def State.pendingFault (s : State) (t : Target) : State :=
  if (s.lines.get t).faultPending then (s.updLine t fun x => { x with faultPending := false }).takeFault t else s

/-- R134: FAULT_TAKE. -/
def execFaultTake (t : Target) (s : State) : Host.Outcome State Fault Refusal := happensWantFirst (·.pendingFault t) s

end Sys2Proof.Machine
end

