-- ==== Sys2Proof/Machine/Dispatch.lean ====
section
/-! DEFINITION. One arm per command: the meaning of each row of the table of steps. -/

namespace Sys2Proof.Machine

def exec (i : Instr) (s : State) : Host.Outcome State Fault Refusal :=
  match i with
  | .resetAssert => Sys2Proof.Machine.execResetAssert s
  | .resetDeassert rate1 rate0 => Sys2Proof.Machine.execResetDeassert rate1 rate0 s
  | .flashProbeAnswer p capacity => Sys2Proof.Machine.execFlashProbeAnswer p capacity s
  | .flashProbeTimeout p => Sys2Proof.Machine.execFlashProbeTimeout p s
  | .startupReadComplete data => Sys2Proof.Machine.execStartupReadComplete data s
  | .startupReadError => Sys2Proof.Machine.execStartupReadError s
  | .startupReadTimeout => Sys2Proof.Machine.execStartupReadTimeout s
  | .cardInsert => Sys2Proof.Machine.execCardInsert s
  | .cardWakeComplete capacity => Sys2Proof.Machine.execCardWakeComplete capacity s
  | .cardWakeError => Sys2Proof.Machine.execCardWakeError s
  | .cardWakeTimeout => Sys2Proof.Machine.execCardWakeTimeout s
  | .cardRemove => Sys2Proof.Machine.execCardRemove s
  | .grant p => Sys2Proof.Machine.execGrant p s
  | .readComplete p n data => Sys2Proof.Machine.execReadComplete p n data s
  | .readDeviceError p n => Sys2Proof.Machine.execReadDeviceError p n s
  | .readTimerExpiry p n => Sys2Proof.Machine.execReadTimerExpiry p n s
  | .channelTake c => Sys2Proof.Machine.execChannelTake c s
  | .backoffTimerExpiry t => Sys2Proof.Machine.execBackoffTimerExpiry t s
  | .blockDeliveryComplete t tdone => Sys2Proof.Machine.execBlockDeliveryComplete t tdone s
  | .trdyAssert t => Sys2Proof.Machine.execTrdyAssert t s
  | .trdyDeassert t left => Sys2Proof.Machine.execTrdyDeassert t left s
  | .readyTimerExpiry t => Sys2Proof.Machine.execReadyTimerExpiry t s
  | .pulseTimerExpiry t => Sys2Proof.Machine.execPulseTimerExpiry t s
  | .tdoneAssert t => Sys2Proof.Machine.execTdoneAssert t s
  | .doneTimerExpiry t => Sys2Proof.Machine.execDoneTimerExpiry t s
  | .tfltAssert t => Sys2Proof.Machine.execTfltAssert t s
  | .tfltDeassert t => Sys2Proof.Machine.execTfltDeassert t s
  | .faultTake t => Sys2Proof.Machine.execFaultTake t s
  | .dataFrame b => Sys2Proof.Machine.execDataFrame b s
  | .hostBlockTimerExpiry t block => Sys2Proof.Machine.execHostBlockTimerExpiry t block s
  | .requestFrame b => Sys2Proof.Machine.execRequestFrame b s
  | .reportAck b => Sys2Proof.Machine.execReportAck b s
  | .frameLengthDiscard b => Sys2Proof.Machine.execFrameLengthDiscard b s
  | .frameCheckDiscard b => Sys2Proof.Machine.execFrameCheckDiscard b s
  | .characterFault => Sys2Proof.Machine.execCharacterFault s
  | .gapTimerExpiry => Sys2Proof.Machine.execGapTimerExpiry s
  | .lineBreak => Sys2Proof.Machine.execBreak s
  | .startOfSending => Sys2Proof.Machine.execStartOfSending s
  | .frameSent => Sys2Proof.Machine.execFrameSent s
  | .resendTimerExpiry seq => Sys2Proof.Machine.execResendTimerExpiry seq s
  | .identify => Sys2Proof.Machine.execIdentify s
  | .partStatus => Sys2Proof.Machine.execPartStatus s
  | .getSource => Sys2Proof.Machine.execGetSource s
  | .setSource => Sys2Proof.Machine.execSetSource s
  | .getTarget => Sys2Proof.Machine.execGetTarget s
  | .setTarget => Sys2Proof.Machine.execSetTarget s
  | .getSettings => Sys2Proof.Machine.execGetSettings s
  | .setSettings => Sys2Proof.Machine.execSetSettings s
  | .load => Sys2Proof.Machine.execLoad s
  | .abort => Sys2Proof.Machine.execAbort s
  | .jobStatus => Sys2Proof.Machine.execJobStatus s
  | .targetLineHold tdone => Sys2Proof.Machine.execTargetLineHold tdone s
  | .targetLineRelease tdone => Sys2Proof.Machine.execTargetLineRelease tdone s
  | .targetLineLeave tdone => Sys2Proof.Machine.execTargetLineLeave tdone s
  | .peek => Sys2Proof.Machine.execPeek s
  | .rescan => Sys2Proof.Machine.execRescan s
  | .saveSetup => Sys2Proof.Machine.execSaveSetup s
  | .saveEraseDone => Sys2Proof.Machine.execSaveEraseDone s
  | .saveEraseError => Sys2Proof.Machine.execSaveEraseError s
  | .saveEraseTimeout => Sys2Proof.Machine.execSaveEraseTimeout s
  | .saveWriteDone => Sys2Proof.Machine.execSaveWriteDone s
  | .saveWriteError => Sys2Proof.Machine.execSaveWriteError s
  | .saveWriteTimeout => Sys2Proof.Machine.execSaveWriteTimeout s
  | .saveVerifyReadDone data => Sys2Proof.Machine.execSaveVerifyReadDone data s
  | .saveVerifyReadError => Sys2Proof.Machine.execSaveVerifyReadError s
  | .saveVerifyTimeout => Sys2Proof.Machine.execSaveVerifyTimeout s
  | .restart => Sys2Proof.Machine.execRestart s
  | .unknownKind => Sys2Proof.Machine.execUnknownKind s
  | .byteReceived b => Sys2Proof.Machine.execByteReceived b s

end Sys2Proof.Machine
end

