-- ==== Sys2Proof/Machine/Step.lean ====
section
/-! DEFINITION. The step: the command at the front of the queue is taken; with an empty queue the part idles. -/

namespace Sys2Proof.Machine

/-- One step: the command at the front of `pending` acts on the state with the queue's rest. With no command waiting the
part idles, for everything it does, a timer's running out included, is a command (Log 2, Log 3). -/
def step (s : State) : Host.Outcome State Fault Refusal :=
  match s.pending with
  | [] => .next s
  | i :: rest => exec i { s with pending := rest }

/-- The state with the command that a table word spells put at the front of the queue; unchanged where the word spells
none, as it is for every word (Log 16). -/
def State.withFetchWord (s : State) (nbits w : Nat) : State :=
  match decodeTableWord nbits w with
  | some i => { s with pending := i :: s.pending }
  | none => s

end Sys2Proof.Machine
end

