-- ==== Sys2Proof/Safety.lean ====
section
/-! DEFINITION. What the spec says always holds of the part, as predicates over a state, and the two next states that many
commands share: a request answered and a report placed. -/

namespace Sys2Proof.Machine

/-! ### Next states that commands share -/

/-- R170: the state in which the head request `r` of the queue has been taken and answered in one event: `rest` still
waits, and the reply is cached (R169) and listed (R171). -/
def State.answered (s : State) (r : Request) (rest : List Request) (st : Status) (data : List Byte) : State :=
  { s with
    link :=
      { s.link with
        queue := rest
        handler := .idle
        cache := (s.link.cache ++ [(⟨r.seq, replyFrame r.seq r.kind st data⟩ : CachedReply)]).drop (s.link.cache.length + 1 - 4)
        replies := s.link.replies ++ [⟨replyFrame r.seq r.kind st data, false⟩] }
    raised := [] }

/-- R170: the handler may take a request now, and `r` is the one it takes. -/
def State.MayTake (s : State) (r : Request) (rest : List Request) : Prop :=
  s.pins.reset = false ∧ s.link.handler = .idle ∧ s.link.replies.length < 4 ∧ s.link.queue = r :: rest

/-- R180: the state with one submission placed in the Report Queue. -/
def State.withReport (s : State) (r : ReportId) (x : Content) : State :=
  { s with reports := { s.reports with entries := placeEntry r x s.reports.entries } }

/-- R91, R178: the state with the PART report of this moment submitted. -/
def State.withPartReport (s : State) : State := s.withReport .part (.part s.partItems)

/-- R28, R178: the state with the JOB report of the target submitted, the job record being `j`. -/
def State.withJobReport (s : State) (t : Target) (j : Job) : State :=
  s.withReport (.job t)
    (.job
      { target := t
        condition := (s.jobs.get t).condition
        origin := j.origin
        state := j.state
        pass := j.pass
        position := j.position
        phase := j.phase
        lastOutcome := j.lastOutcome
        delivered := j.delivered
        final := j.final
        version := if j.state = .delivered then (s.jobs.get t).descriptor.map (·.version) else none })

/-- R122: the state with the WANT report of the target submitted under tag `tag`. -/
def State.withWantReport (s : State) (t : Target) (tag : Byte) : State :=
  s.withReport (.want t) (.want ⟨t, tag, s.wantedBlocks t⟩)

/-- R170: the state in which the request in service has been answered. -/
def State.served (s : State) (r : Request) (st : Status) (data : List Byte) : State := s.answered r s.link.queue st data

/-- R7: the state in which the target's job record is `j`. -/
def State.withJob (s : State) (t : Target) (j : Job) : State :=
  { s with jobs := s.jobs.set t { s.jobs.get t with job := some j } }

/-- R71, R82: a channel after its job has left it. -/
def Channel.left (x : Channel) : Channel := { x with running := none, params := none, check := none }

/-- R26: whether a delivery of a stream raises the version floor of a record. -/
def TargetRecord.floorRises (r : TargetRecord) (x : StreamParams) : Bool :=
  r.raisePermitted && x.raiseFloor && decide (r.versionFloor < x.version)

/-- R26, R144, R155: the Setup Store after a delivery to a target. -/
def SetupStore.afterDelivery (y : SetupStore) (t : Target) (x : StreamParams) : SetupStore :=
  let r := y.setup.targets.get t
  if r.floorRises x then
    { y with
      setup := { y.setup with targets := y.setup.targets.set t { r with versionFloor := x.version } }
      changed := true
      save := y.save.map fun v => { v with edited := true } }
  else y

/-- R6, R25, R71: the state in which the target's job `j`, running on channel `c` in an attempt at position `p` with entry
copy `e` and stream `x`, has become DELIVERED; what the line does is said beside it. -/
def State.delivered (s : State) (c : Chan) (t : Target) (j : Job) (x : StreamParams) (p : Position) (e : SourceEntry) :
    State :=
  { s with
    channels := s.channels.set c (s.channels.get c).left
    jobs := s.jobs.set t
      { s.jobs.get t with
        condition := .loaded
        descriptor := some ⟨p, e.port, x.version, x.length, x.check, x.label⟩
        job := some { j with state := .delivered, final := some .delivered, abortPending := false } }
    store := s.store.afterDelivery t x }

/-- The slot reserved and the claim gone: the channel after a grant of its claim for block `k` (R73). Which FREE slot is taken
is the model's choice (Log 25). -/
def Channel.granted (x : Channel) (k : Nat) : Channel :=
  { x with claim := none, slots := reserve k x.slots, issue := k + 1 }

/-! ### How an attempt ends and the search moves on -/

/-- R13, R48: the job with an attempt outcome recorded at position `p` in phase `ph`. -/
def Job.logged (j : Job) (p : Position) (ph : Phase) (o : AttemptOutcome) : Job :=
  { j with
    lastOutcome := some o
    log := (j.log ++ [(⟨j.pass, p, ph, o⟩ : LogEntry)]).drop (j.log.length + 1 - 16) }

/-- R8, R13, R35: the job in a new attempt at position `p`, with its copy `e` of the entry. -/
def Job.attempting (j : Job) (p : Position) (ph : Phase) (e : SourceEntry) : Job :=
  { j with tag := j.tag + 1, position := some p, phase := some ph, delivered := 0, entry := some e }

/-- R72, R82: the channel at the start of an attempt on port `p`, with the claim of block 0 placed. -/
def Channel.attempting (x : Channel) (p : Port) : Channel :=
  { x with issue := 0, params := none, check := none, claim := some ⟨p, 0⟩ }

/-- R127: the line after a release on entry to STREAMING, which a LANE target alone has. -/
def State.startedLine (s : State) (t : Target) : TargetPort :=
  if (s.record t).kind = .lane then
    (s.lines.get t).release (s.pins.tflt.get t) (s.pins.trdy.get t) (s.record t)
  else s.lines.get t

/-- R34, R46: every position of the list is passed over, its entry being disabled. -/
def State.Skips (s : State) (ps : List Position) : Prop := ∀ p ∈ ps, (s.source p).enabled = false

/-- R34, R37, R41, R42, R45, R46: no position of the pass is left to try: none to probe and, in NEWEST mode, no candidate to
fetch, but for those whose entries are disabled. -/
def State.PassOver (s : State) (t : Target) (j : Job) : Prop :=
  match (s.record t).mode with
  | .first => s.Skips j.rest
  | .newest => s.Skips (j.candidates.map (·.position)) ∧ (j.phase = some .fetch ∨ s.Skips j.rest)

/-- R46: the job at the end of its pass, every candidate left having been dropped. -/
def State.passedJob (s : State) (t : Target) (j : Job) : Job :=
  { j with
    candidates := match (s.record t).mode with
      | .first => j.candidates
      | .newest => [] }

/-- R37, R38, R17: the pass of job `j` is over in `s`, and `u` is the state it leaves, with the job record `k`: FAILED with
NO IMAGE at the pass limit, and otherwise in the next pass, QUEUED in the wait queue of its class's channel or in
BACKOFF. -/
def State.PassEnded (s : State) (c : Chan) (t : Target) (j : Job) (u : State) (k : Job) : Prop :=
  let s1 : State := { s with channels := s.channels.set c (s.channels.get c).left }
  let next : Job := { j with pass := min (j.pass + 1) 65535 }
  let backoff := (s.record t).backoff
  if j.passLimit ≠ 0 ∧ j.passLimit ≤ j.pass then
    k = { j with state := .failed, final := some .noImage, abortPending := false } ∧ u = s1.withJob t k
  else if backoff = 0 then
    k = { next with state := .queued }
      ∧ u = { s1.withJob t k with
          queues :=
            let d := s.settings.classMap (s.record t).cls
            s.queues.set d (insertByClass (fun v => (s.record v).cls) t (s.queues.get d)) }
  else
    k = { next with state := .backoff }
      ∧ u = { s1 with jobs := s.jobs.set t { s.jobs.get t with job := some k, backoff := some (100 * backoff) } }

/-- R34, R37, R41, R42, R44 to R46: the search of job `j` on channel `c`, whose attempt has ended in `s`, moves on to the
state `u` with the job record `k`: a probe of the next position, a fetch of the next candidate, or the end of the pass. The
position it moves to is the first left whose entry is enabled, and its port does not refuse claims: disabled positions are
passed over, and disabled candidates dropped, with no attempt. -/
def State.Moved (s : State) (c : Chan) (t : Target) (j : Job) (u : State) (k : Job) : Prop :=
  (∃ ds r rs, ((s.record t).mode = .first ∨ j.phase ≠ some .fetch) ∧ j.rest = ds ++ r :: rs ∧ s.Skips ds
      ∧ (s.source r).enabled = true ∧ s.refuses (s.source r).port = false
      ∧ k = { j.attempting r .probe (s.source r) with state := .probing }
      ∧ u = { s with channels := s.channels.set c ((s.channels.get c).attempting (s.source r).port) }.withJob t k)
  ∨ (∃ ds x xs, (s.record t).mode = .newest ∧ (j.phase = some .fetch ∨ s.Skips j.rest) ∧ j.candidates = ds ++ x :: xs
      ∧ s.Skips (ds.map (·.position)) ∧ (s.source x.position).enabled = true
      ∧ s.refuses (s.source x.position).port = false
      ∧ k = { j.attempting x.position .fetch (s.source x.position) with candidates := x :: xs, state := .streaming }
      ∧ u = { s with
          channels := s.channels.set c { (s.channels.get c).attempting (s.source x.position).port with
            params := some (streamParams x.header), check := some 0xFFFFFFFF#32 }
          lines := s.lines.set t (s.startedLine t) }.withJob t k)
  ∨ (s.PassOver t j ∧ s.PassEnded c t (s.passedJob t j) u k)

/-- R75, R39, R42: the probe at position `p` that job `j` is in ends with outcome `o` in `s`, and the search moves on. -/
def State.ProbeEnded (s : State) (c : Chan) (t : Target) (j : Job) (p : Position) (o : AttemptOutcome) (u : State)
    (k : Job) : Prop :=
  State.Moved { s with channels := s.channels.set c { s.channels.get c with claim := none } } c t (j.logged p .probe o) u k

/-- R84, R87, R127, R131: the state after a fetch of channel `c` has ended, `host` saying whether it read from HOST: the claim
is withdrawn, HOST reads are cancelled, HELD blocks discarded, the lane and its timers stopped, a LANE target's line
asserted. -/
def State.cleared (s : State) (c : Chan) (t : Target) (host : Bool) : State :=
  let idle : TargetPort := { s.lines.get t with lane := .idle, block := none, ready := none, done := none }
  { s with
    channels := s.channels.set c { s.channels.get c with
      claim := none, check := none
      slots := (s.channels.get c).slots.map fun y => if y.isInFlight && !host then y else .free }
    lines := s.lines.set t (if (s.record t).kind = .lane then idle.assert else idle)
    wanted := s.wanted.filter fun w => !decide (w.target = t) }

/-- R84, R13, R45: the job record after its fetch at position `p` has ended with outcome `o`: the outcome is logged and a
NEWEST candidate dropped. -/
def State.endedJob (s : State) (t : Target) (j : Job) (p : Position) (o : AttemptOutcome) : Job :=
  { j.logged p .fetch o with
    candidates := match (s.record t).mode with
      | .first => j.candidates
      | .newest => j.candidates.tail }

/-- R35: whether the attempt reads from HOST. -/
def Job.fromHost (j : Job) : Bool := j.entry.any fun e => decide (e.port = .host)

/-- R84, R83, R45, R127: the fetch at position `p` that job `j` is in ends with outcome `o` in `s`: the job drains while
reads are in flight, or the search moves on. -/
def State.FetchEnded (s : State) (c : Chan) (t : Target) (j : Job) (p : Position) (o : AttemptOutcome) (u : State)
    (k : Job) : Prop :=
  let s1 := s.cleared c t j.fromHost
  let j1 := s.endedJob t j p o
  if (s1.channels.get c).slots.any (·.isInFlight) then k = { j1 with state := .draining } ∧ u = s1.withJob t k
  else s1.Moved c t j1 u k

/-- R75, R84: the attempt at position `p` that job `j` is in, a probe or a fetch, ends with outcome `o` in `s`. -/
def State.AttemptEnded (s : State) (c : Chan) (t : Target) (j : Job) (p : Position) (o : AttemptOutcome) (u : State)
    (k : Job) : Prop :=
  (j.state = .streaming ∧ j.phase = some .fetch ∧ s.FetchEnded c t j p o u k)
    ∨ (j.state = .probing ∧ j.phase = some .probe ∧ s.ProbeEnded c t j p o u k)

/-- The part at the start of start-up: R145's changes over the values after power-on reset. -/
def startingUp (pins : Pins) (rate : Fin 4) (q : List Instr) : State :=
  { State.reset with
    pins := pins
    link := .reset rate
    ports := ⟨⟨.probing, 0, [], .a⟩, ⟨.probing, 0, [], .a⟩, ⟨if pins.card then .waking else .empty, 0, [], .a⟩,
      ⟨.ready, 0, [], .a⟩⟩
    pending := q }

/-- The commands that tell the level of an input pin. -/
def PinCommand : Instr → Prop
  | .resetAssert | .resetDeassert _ _ | .cardInsert | .cardRemove | .blockDeliveryComplete _ _ | .trdyAssert _
  | .trdyDeassert _ _ | .tdoneAssert _ | .tfltAssert _ | .tfltDeassert _ | .targetLineHold _ | .targetLineRelease _
  | .targetLineLeave _ => True
  | _ => False

/-- The commands of the kinds of request, with the kind each takes (11.4). -/
def requestRows : List (Instr × Byte) :=
  [(.identify, 0x01#8), (.partStatus, 0x02#8), (.getSource, 0x03#8), (.setSource, 0x04#8), (.getTarget, 0x05#8),
    (.setTarget, 0x06#8), (.getSettings, 0x07#8), (.setSettings, 0x08#8), (.load, 0x09#8), (.abort, 0x0A#8),
    (.jobStatus, 0x0B#8), (.targetLineHold true, 0x0C#8), (.targetLineHold false, 0x0C#8),
    (.targetLineRelease true, 0x0C#8), (.targetLineRelease false, 0x0C#8), (.targetLineLeave true, 0x0C#8),
    (.targetLineLeave false, 0x0C#8), (.peek, 0x0D#8), (.rescan, 0x0E#8), (.saveSetup, 0x0F#8), (.restart, 0x10#8)]

/-- The payload length of each kind of request (R191 and each request's rule). -/
def payloadLength (kind : Byte) : Nat :=
  [0, 0, 0, 1, 7, 1, 22, 0, 13, 3, 1, 1, 2, 5, 1, 0, 0].getD kind.toNat 0

/-- The Setup Store after an accepted edit of the live setup: the flag is set, with the mark of a save, exactly if a value
differs (R4, R33, R111, R144, R155). -/
def editedStore (x : SetupStore) (new : Setup) : SetupStore :=
  if new = x.setup then x
  else { x with setup := new, changed := true, save := x.save.map fun v => { v with edited := true } }

/-- The state in which a save has ended: its result in the Setup Store, FLASH0 READY, the reply built and a PART report
queued (R104, R154). -/
def saveEnded (s : State) (r : Request) (x : SetupStore) (st : Status) (data : List Byte) : State :=
  ({ s with store := x, ports := { s.ports with flash0 := { s.ports.flash0 with state := .ready } } }.served r st
    data).withPartReport

/-! ### Invariants -/

/-- R145: while the reset input is held, every block is at its value after power-on reset, and the rate code at the 0 that the
model gives it (Log 7). -/
def State.HeldOk (s : State) : Prop :=
  s.pins.reset = true → s = { State.reset with pins := s.pins, pending := s.pending }

/-- R1, R30, R111: every value of a setup is in its range. -/
def Setup.InRange (x : Setup) : Prop :=
  (∀ p, (x.sources.get p).inRange = true) ∧ (∀ t, (x.targets.get t).inRange = true) ∧ x.settings.inRange = true

/-- R1, R30, R111, R151: the live setup and the snapshot of a save are in range. -/
def State.SetupOk (s : State) : Prop :=
  s.store.setup.InRange ∧ ∀ v, s.store.save = some v → v.snapshot.InRange

/-- R99, R103: no port has more than 3 reads outstanding, and a port that is not READY has none. -/
def State.PortsOk (s : State) : Prop :=
  (∀ p, s.outstanding p ≤ 3) ∧ (∀ p, (s.ports.get p).state ≠ .ready → (s.ports.get p).reads = [])
    ∧ (s.ports.get .host).state = .ready

/-- R165, R168, R169, R171: the bounds of the Host Link: at most 4 requests wait, 4 replies are cached and 5 are listed,
at most 4 while a request is in service, and no discard count passes 65,535. -/
def State.LinkOk (s : State) : Prop :=
  s.link.queue.length ≤ 4 ∧ s.link.cache.length ≤ 4 ∧ s.link.replies.length ≤ 5
    ∧ ((∃ r w, s.link.handler = .serving r w) → s.link.replies.length ≤ 4)
    ∧ s.link.lengthDiscards ≤ 65535 ∧ s.link.gapDiscards ≤ 65535 ∧ s.link.checkDiscards ≤ 65535

/-- R168, R169: no two requests held share a sequence number, and no two cached replies do; a request held has no cached
reply. -/
def State.SequencesOk (s : State) : Prop :=
  let held := s.link.queue.map (·.seq) ++ (match s.link.handler with
    | .serving r _ => [r.seq]
    | .idle | .stopped => [])
  (held ++ s.link.cache.map (·.seq)).Nodup

/-- R177, R180, R181, R182, R186: at most 15 entries, at most 2 IN FLIGHT, no two WAITING of one kind and subject, no two
IN FLIGHT of one sequence; a WAITING entry has no sequence, count, timer or resend due; no resend timer runs while
QUIET. -/
def ReportQueue.Ok (q : ReportQueue) : Prop :=
  q.entries.length ≤ 15 ∧ q.flying.length ≤ 2
    ∧ ((q.entries.filter (!·.inFlight)).map (·.id)).Nodup
    ∧ (q.flying.map (·.seq)).Nodup
    ∧ (∀ e ∈ q.entries, e.inFlight = true → e.seq.isSome = true ∧ e.resends ≤ 3)
    ∧ (∀ e ∈ q.entries, e.inFlight = false → e.seq = none ∧ e.resends = 0 ∧ e.timer = none ∧ e.due = false)
    ∧ (q.quiet = true → ∀ e ∈ q.entries, e.timer = none)

/-- R11: the job states in which a job is the running job of a channel. -/
def JobState.isRunning : JobState → Bool
  | .probing | .streaming | .finishing | .draining => true
  | .queued | .backoff | .delivered | .failed | .aborted => false

/-- How many channels run the target's job. -/
def State.runCount (s : State) (t : Target) : Nat :=
  (if (s.channels.get .a).running = some t then 1 else 0) + (if (s.channels.get .b).running = some t then 1 else 0)

/-- How many places of the wait queues hold the target's job. -/
def State.queueCount (s : State) (t : Target) : Nat := (s.queues.get .a).count t + (s.queues.get .b).count t

/-- R11: where a target's job can be found: the numbers of channels that run it and of queue places that hold it. -/
def State.JobPlaced (s : State) (t : Target) : Prop :=
  match s.job t with
  | none => s.runCount t = 0 ∧ s.queueCount t = 0
  | some j =>
    s.runCount t = (if j.state.isRunning then 1 else 0) ∧ s.queueCount t = (if j.state = .queued then 1 else 0)

/-- R7, R11, R14, R48, R149: each job stands where its state says, has a final outcome exactly when its state is final,
and keeps at most 16 log entries; before READY there is no job record at all. -/
def State.JobsOk (s : State) : Prop :=
  (∀ t, s.JobPlaced t)
    ∧ (∀ t j, s.job t = some j → j.final.isSome = j.state.isFinal ∧ j.log.length ≤ 16)
    ∧ (s.store.startup ≠ .ready → s.jobs = .all .reset)

/-- R127: the states of a LANE target's job in which its line is asserted. -/
def JobState.holdsLane : JobState → Bool
  | .queued | .backoff | .probing | .draining => true
  | .streaming | .finishing | .delivered | .failed | .aborted => false

/-- R127: while a MEMORY target has a job in a non-final state its line is asserted, and while a LANE target's job is
QUEUED, BACKOFF, PROBING or DRAINING its line is asserted. -/
def State.LinesOk (s : State) : Prop :=
  ∀ t j, s.job t = some j →
    ((s.record t).kind = .memory → j.state.isFinal = false → (s.lines.get t).line = .asserted)
      ∧ ((s.record t).kind = .lane → j.state.holdsLane = true → (s.lines.get t).line = .asserted)

end Sys2Proof.Machine
end

