-- ==== Sys2Proof/WellFormed.lean ====
section
/-! DEFINITION. Which commands the part can meet: the operand checks that hold whatever the state is. -/

namespace Sys2Proof

/-- R92: a presence probe runs on a flash port alone. -/
def Port.isFlash : Port → Bool
  | .flash0 | .flash1 => true
  | .card | .host => false

/-- R93, R97, R99: a device read is one of at most three outstanding reads of a flash or card port, and a flash port
completes the oldest of them (R76). -/
def Port.readPlace (p : Port) (n : Nat) : Bool :=
  match p with
  | .flash0 | .flash1 => n = 0
  | .card => n < 3
  | .host => false

/-- R74: a device read returns 128 bytes. -/
def fullBlock (data : List Byte) : Bool := data.length = Config.blockBytes

/-- R164: the length bytes with which a frame goes on. -/
def lengthInRange (b : Byte) : Bool := 2 ≤ b.toNat && b.toNat ≤ 242

/-- The operand checks of a command. The part never meets a command that fails one; Log 1 says what the meanings do with
it all the same. -/
def Instr.wf : Instr → Bool
  | .flashProbeAnswer p _ | .flashProbeTimeout p => p.isFlash
  | .startupReadComplete data | .saveVerifyReadDone data => fullBlock data
  | .readComplete p n data => p.readPlace n && fullBlock data
  | .readDeviceError p n | .readTimerExpiry p n => p.readPlace n
  | .trdyDeassert _ left => left ≤ Config.blockBytes
  | .hostBlockTimerExpiry _ block => block ≤ 65535
  | .frameLengthDiscard b => !lengthInRange b
  | .resetAssert | .resetDeassert _ _ | .startupReadError | .startupReadTimeout | .cardInsert | .cardWakeComplete _
  | .cardWakeError | .cardWakeTimeout | .cardRemove | .grant _ | .channelTake _ | .backoffTimerExpiry _
  | .blockDeliveryComplete _ _ | .trdyAssert _ | .readyTimerExpiry _ | .pulseTimerExpiry _ | .tdoneAssert _
  | .doneTimerExpiry _ | .tfltAssert _ | .tfltDeassert _ | .faultTake _ | .dataFrame _ | .requestFrame _
  | .reportAck _ | .frameCheckDiscard _ | .characterFault | .gapTimerExpiry | .lineBreak | .startOfSending
  | .frameSent | .resendTimerExpiry _ | .identify | .partStatus | .getSource | .setSource | .getTarget | .setTarget
  | .getSettings | .setSettings | .load | .abort | .jobStatus | .targetLineHold _ | .targetLineRelease _
  | .targetLineLeave _ | .peek | .rescan | .saveSetup | .saveEraseDone | .saveEraseError | .saveEraseTimeout
  | .saveWriteDone | .saveWriteError | .saveWriteTimeout | .saveVerifyReadError | .saveVerifyTimeout | .restart
  | .unknownKind | .byteReceived _ => true

end Sys2Proof
end

