-- ==== Sys2Proof/Certificates/Slice0/Obligations.lean ====
section
/-! DEFINITION. The statements for the provers. In every statement about a command the record written out after
`.next` is the whole next state, so each field it does not name is unchanged. `raised` is the model's own field and is
empty after every event (Log 8). How the commands stand for the spec's events is the model's choice: a request's row takes
the request at the head of the queue (Log 15), a frame's row carries the frame's last byte (Log 13), the level of TDONE
comes with the events that read it (Log 4), and a command that names an event which cannot happen changes nothing
(Log 1). -/

open Sys2Proof Sys2Proof.Machine

/-! ### The queue of commands and the whole machine -/

/-- The step takes the command at the front of the queue and runs it with the queue's rest (spec/95). -/
def Obligations.StepRunsFrontCommand : Prop :=
  ∀ (c : Instr) (rest : List Instr) (s : State),
    step { s with pending := c :: rest } = exec c { s with pending := rest }

/-- Every command completes in every state; it leaves the waiting commands alone, and the part never drives its own inputs:
only a command that tells the level of a pin changes a pin (Log 2, Log 24). -/
def Obligations.EveryCommandCompletes : Prop :=
  ∀ (i : Instr) (s : State), ∃ t, exec i s = .next t ∧ t.pending = s.pending ∧ (¬ PinCommand i → t.pins = s.pins)

/-! ### Reset and start-up -/

/-- The values after power-on reset, every block's: R68, R90, R126, R141, R159, R177, R112, R5, R6, R11. The rate code is any
of its values (Log 7). -/
def Obligations.ResetValues : Prop :=
  (∀ t, State.reset.jobs.get t = ⟨.none, none, none, none⟩)
    ∧ (∀ c, State.reset.channels.get c = ⟨none, [.free, .free, .free, .free], none, 0, none, none⟩)
    ∧ (∀ c, State.reset.queues.get c = [])
    ∧ State.reset.ports.flash0 = ⟨.absent, 0, [], .a⟩ ∧ State.reset.ports.flash1 = ⟨.absent, 0, [], .a⟩
    ∧ State.reset.ports.card = ⟨.empty, 0, [], .a⟩ ∧ State.reset.ports.host = ⟨.ready, 0, [], .a⟩
    ∧ State.reset.wanted = []
    ∧ (∀ t, State.reset.lines.get t = ⟨.asserted, some 1, .idle, none, none, none, false⟩)
    ∧ State.reset.store = ⟨.probingPorts, [], .default, .defaults, .none, none, none, false, none, .none⟩
    ∧ State.reset.reports = ⟨[], 0#8, false⟩
    ∧ (∃ rate, State.reset.link = ⟨rate, .hunting, none, 0, 0, 0, [], .idle, [], [], .idle⟩)
    ∧ (∀ rate, Link.reset rate = ⟨rate, .hunting, none, 0, 0, 0, [], .idle, [], [], .idle⟩)

/-- RESET_ASSERT: every block takes its value after power-on reset (R145, R156). -/
def Claims.ResetAssertResetsAll : Prop :=
  ∀ s : State,
    exec .resetAssert s = .next { State.reset with pins := { s.pins with reset := true }, pending := s.pending }

/-- RESET_DEASSERT: start-up begins: the straps give the rate code, both flash ports probe, the card wakes if it is
present, and one PART report is queued (R145, R160). -/
def Claims.ResetDeassertStartsUp : Prop :=
  ∀ (pins : Pins) (q : List Instr) (rate1 rate0 : Bool), pins.reset = true →
    ∃ rate : Fin 4, rate.val = 2 * rate1.toNat + rate0.toNat ∧
      exec (.resetDeassert rate1 rate0) { State.reset with pins := pins, pending := q }
        = .next (startingUp { pins with reset := false } rate q).withPartReport

/-- FRAME_SENT of the reply of an accepted RESTART sets off the power-on sequence, which keeps the line rate (R156, R159,
R173). -/
def Claims.RestartReplySetsOffPowerOn : Prop :=
  ∀ (s : State) (f : List Byte) (r : Reply) (rest : List Reply), s.pins.reset = false → s.link.tx = .reply f →
    s.link.replies = r :: rest → r.restart = true →
      exec .frameSent s = .next (startingUp s.pins s.link.rate s.pending).withPartReport

/-- RESET_ASSERT, RESET_DEASSERT and the end of the reply of a RESTART (R145, R156, R159, R160). -/
def Obligations.ResetsStartThePart : Prop := Claims.ResetAssertResetsAll ∧ Claims.ResetDeassertStartsUp ∧ Claims.RestartReplySetsOffPowerOn

/-- The start-up reads before the fourth: each result is kept and the next read is awaited (R147). -/
def Claims.StartupReadsAreKept : Prop :=
  ∀ (s : State) (data : List Byte), s.pins.reset = false → s.store.startup = .loadingSetup →
    s.store.loads.length < 3 → (∀ a, [0, 1, 32, 33][s.store.loads.length + 1]? = some a → a < s.ports.flash0.capacity) →
      (data.length = 128 → exec (.startupReadComplete data) s
        = .next { s with store := { s.store with loads := s.store.loads ++ [some data] }, raised := [] })
      ∧ exec .startupReadError s
        = .next { s with store := { s.store with loads := s.store.loads ++ [none] }, raised := [] }
      ∧ exec .startupReadTimeout s
        = .next { s with store := { s.store with loads := s.store.loads ++ [none] }, raised := [] }

/-- R147's table: which copy is chosen, with its origin, reason, current copy and generation; and R148: the flag is set
where the load replaces a value. -/
def Obligations.CopyChoiceFollowsTable : Prop :=
  ∀ (x : SetupStore) (a0 a1 b0 b1 : List Byte),
    let A := a0 ++ a1
    let B := b0 ++ b1
    let loads := [some a0, some a1, some b0, some b1]
    let chosenA := fun reason =>
      { x with setup := loadSetup A, origin := .copyA, reason := reason, current := some .a
               generation := some (copyGeneration A), changed := x.changed || loadReplaces A }
    let chosenB := fun reason =>
      { x with setup := loadSetup B, origin := .copyB, reason := reason, current := some .b
               generation := some (copyGeneration B), changed := x.changed || loadReplaces B }
    (copyValid A = true → copyValid B = true → ¬ copyGeneration A < copyGeneration B → x.judge loads = chosenA .none)
      ∧ (copyValid A = true → copyValid B = true → copyGeneration A < copyGeneration B → x.judge loads = chosenB .none)
      ∧ (copyValid A = true → copyValid B = false → x.judge loads = chosenA .otherCopyInvalid)
      ∧ (copyValid A = false → copyValid B = true → x.judge loads = chosenB .otherCopyInvalid)
      ∧ (copyValid A = false → copyValid B = false → x.judge loads = { x with origin := .defaults, reason := .noValidCopy })
      ∧ (copyValid A = true → ∀ u v, u = none ∨ v = none → x.judge [some a0, some a1, u, v] = chosenA .otherCopyInvalid)
      ∧ (copyValid B = true → ∀ u v, u = none ∨ v = none → x.judge [u, v, some b0, some b1] = chosenB .otherCopyInvalid)

/-- The fourth start-up read, with its data or failed, ends start-up: the copies are judged, the state is READY, and exactly the
present auto-start targets get a job of origin START, in the order of class and target number in the wait queues, or FAILED
with NO SOURCES; a PART report is queued and then their JOB reports (R147, R149, R20, R9, R14). -/
def Claims.FourthReadReachesReady : Prop :=
  ∀ (s : State) (data : List Byte), s.pins.reset = false → s.store.startup = .loadingSetup →
    s.store.loads.length = 3 → s.jobs = .all .reset → s.queues = ⟨[], []⟩ → data.length = 128 →
    ∀ x ∈ [(Instr.startupReadComplete data, some data), (.startupReadError, none), (.startupReadTimeout, none)],
      let y := { s.store.judge (s.store.loads ++ [x.2]) with startup := .ready, loads := [] }
      let rec_ := fun u => y.setup.targets.get u
      let auto := fun u => (rec_ u).present && (rec_ u).autoStart
      ∃ t, exec x.1 s = .next t ∧ t.store = y ∧ t.pins = s.pins ∧ t.link = s.link ∧ t.channels = s.channels
        ∧ t.ports = s.ports ∧ t.wanted = s.wanted ∧ t.pending = s.pending
        ∧ (∀ u, auto u = false → t.jobs.get u = s.jobs.get u ∧ t.lines.get u = s.lines.get u)
        ∧ (∀ u, auto u = true → t.lines.get u = (s.lines.get u).assert ∧ ∃ j, t.job u = some j ∧ j.origin = .start
            ∧ j.relaxed = false ∧ j.only = none ∧ j.passLimit = (rec_ u).passLimit ∧ j.tag = 0#8
            ∧ j.effective = t.effectiveSet u none
            ∧ (t.effectiveSet u none = [] → j.state = .failed ∧ j.final = some .noSources)
            ∧ (t.effectiveSet u none ≠ [] → j.state = .queued ∧ j.final = none))
        ∧ (∀ c u, u ∈ t.queues.get c
            ↔ auto u = true ∧ t.effectiveSet u none ≠ [] ∧ y.setup.settings.classMap (rec_ u).cls = c)
        ∧ (∀ c, (t.queues.get c).Pairwise fun a b =>
            (rec_ a).cls < (rec_ b).cls ∨ ((rec_ a).cls = (rec_ b).cls ∧ targetNum a < targetNum b))
        ∧ t.reports = (allTargets.foldl (fun (z : State) (u : Target) => match t.job u with
            | some j => z.withJobReport u j
            | none => z) ({ t with reports := s.reports } : State).withPartReport).reports

/-- The start-up reads, from the first to the fourth (R147, R149, R20). -/
def Obligations.StartupReadsEndInReady : Prop := Claims.StartupReadsAreKept ∧ Claims.FourthReadReachesReady

/-! ### Source ports -/

/-- FLASH_PROBE_ANSWER and FLASH_PROBE_TIMEOUT after READY, where a RESCAN of the port is in service, whatever claims wait on
it: the port becomes READY with the capacity answered, at most 16,777,216, or ABSENT with capacity 0, the other ports stay as
they were, and the RESCAN is answered (R92, R108). A claim then answered NO PORT leaves the
port's last grantee as it was (Log 21). -/
def Claims.FlashProbeEnds : Prop :=
  ∀ (s : State) (p : Port) (r : Request) (n : Nat), p = .flash0 ∨ p = .flash1 → s.pins.reset = false →
    s.store.startup = .ready → (s.ports.get p).state = .probing → s.link.handler = .serving r (.rescan p) →
      let q : SourcePort := { s.ports.get p with
        state := if n = 0 then .absent else .ready, capacity := if n = 0 then 0 else min n 16777216 }
      ∀ i ∈ Instr.flashProbeAnswer p n :: (if n = 0 then [.flashProbeTimeout p] else []),
        ∃ t, exec i s = .next t ∧ t.ports = s.ports.set p q ∧ t.pins = s.pins
          ∧ t.link = (s.served r .ok (portCode p :: portStateCode q.state :: le 4 q.capacity)).link

/-- CARD_INSERT starts a wake of an EMPTY port; CARD_WAKE_COMPLETE, _ERROR and _TIMEOUT end it, with no
claim and no RESCAN waiting, READY or FAULTED (R95, R91). -/
def Claims.CardWakes : Prop :=
  ∀ s : State, s.pins.reset = false →
    (s.pins.card = false → s.ports.card.state = .empty → exec .cardInsert s
      = .next ({ s with pins := { s.pins with card := true }, ports := { s.ports with card := { s.ports.card with state := .waking } }
                        raised := [] }).withPartReport)
    ∧ (s.ports.card.state = .waking → s.claims .a .card = false → s.claims .b .card = false → s.link.handler = .idle →
      (∀ n, exec (.cardWakeComplete n) s
        = .next ({ s with ports := { s.ports with card := { s.ports.card with state := .ready, capacity := min n 16777216 } }
                          raised := [] }).withPartReport)
      ∧ exec .cardWakeError s
        = .next ({ s with ports := { s.ports with card := { s.ports.card with state := .faulted, capacity := 0 } }
                          raised := [] }).withPartReport
      ∧ exec .cardWakeTimeout s
        = .next ({ s with ports := { s.ports with card := { s.ports.card with state := .faulted, capacity := 0 } }
                          raised := [] }).withPartReport)

/-- CARD_REMOVE of a port with nothing outstanding or claimed and no PEEK or RESCAN of it in service: EMPTY with capacity 0, and
a PART report; a request in service for something else goes on (R96). With a PEEK in service on the card, its claim waiting or its read outstanding, the PEEK is answered NO PORT too (R107). -/
def Claims.CardRemoved : Prop :=
  ∀ s : State, s.pins.reset = false → s.pins.card = true → s.ports.card.state ≠ .empty →
    s.claims .a .card = false → s.claims .b .card = false →
      let s1 : State := { s with
        pins := { s.pins with card := false }
        ports := { s.ports with card := { s.ports.card with state := .empty, capacity := 0, reads := [] } }
        raised := [] }
      (s.ports.card.reads = [] → (∀ r a, s.link.handler ≠ .serving r (.peek .card a)) →
        (∀ r, s.link.handler ≠ .serving r (.rescan .card)) → exec .cardRemove s = .next s1.withPartReport)
      ∧ (∀ r a, (∀ x ∈ s.ports.card.reads, x.reader = .peek) → s.link.handler = .serving r (.peek .card a) →
        exec .cardRemove s = .next (s1.served r .noPort []).withPartReport)

/-- CARD_REMOVE with reads of a channel's running job outstanding, all completed with NO PORT in the
one event: in PROBING and STREAMING the attempt ends with NO PORT and the search moves on; in DRAINING the drain ends, as ABORTED with abort
pending (R86, R96, R75, R84, R85). -/
def Claims.CardRemovedUnderReads : Prop :=
  ∀ (s : State) (c : Chan) (t : Target) (j : Job) (e : SourceEntry) (p : Position) (u : State) (k : Job),
    s.pins.reset = false → s.pins.card = true → s.ports.card.state = .ready → s.ports.card.reads ≠ [] →
    (∀ x ∈ s.ports.card.reads, ∃ b, x.reader = .chan c b) → (∀ d, d ≠ c → s.claims d .card = false) → s.link.handler = .idle →
    (s.channels.get c).running = some t → s.job t = some j → j.entry = some e → e.port = .card →
    s.wanted.any (·.target = t) = false → j.position = some p →
      let x := { s.channels.get c with slots := (s.channels.get c).slots.map fun y => if y.isInFlight then .free else y }
      let s1 : State := { s with
        pins := { s.pins with card := false }
        ports := { s.ports with card := { s.ports.card with state := .empty, capacity := 0, reads := [] } }
        channels := s.channels.set c x
        raised := [] }
      let aborted := { j with state := .aborted, final := some .aborted, abortPending := false }
      (j.state = .probing → j.phase = some .probe → s1.ProbeEnded c t j p .noPort u k →
        exec .cardRemove s = .next (u.withPartReport.withJobReport t k))
      ∧ (j.state = .streaming → j.phase = some .fetch → s1.FetchEnded c t j p .noPort u k →
        exec .cardRemove s = .next (u.withPartReport.withJobReport t k))
      ∧ (j.state = .draining → j.abortPending = false → s1.Moved c t j u k →
        exec .cardRemove s = .next (u.withPartReport.withJobReport t k))
      ∧ (j.state = .draining → j.abortPending = true →
        exec .cardRemove s = .next ((({ s1 with channels := s.channels.set c x.left } : State).withJob t
          aborted).withPartReport.withJobReport t aborted))

/-- A claim that waits on CARD when its wake ends FAULTED, or when the card is removed, is answered
NO PORT, which ends the attempt (R95, R96, R98, R72). The answer raises the issue counter and
leaves the port's last grantee by the model's choice (Log 21). -/
def Claims.WaitingClaimRefused : Prop :=
  ∀ (s : State) (c : Chan) (t : Target) (j : Job) (b : Nat) (p : Position) (u : State) (k : Job), s.pins.reset = false →
    s.ports.card.state = .waking → s.ports.card.reads = [] → s.link.handler = .idle →
    (s.channels.get c).claim = some ⟨.card, b⟩ → (∀ d, d ≠ c → s.claims d .card = false) → (s.channels.get c).running = some t →
    s.job t = some j → j.position = some p → s.wanted.any (·.target = t) = false →
      let x := { s.channels.get c with claim := none, issue := (s.channels.get c).issue + 1 }
      (∀ i ∈ [Instr.cardWakeError, .cardWakeTimeout],
        let s1 : State := { s with
          ports := { s.ports with card := { s.ports.card with state := .faulted, capacity := 0 } }
          channels := s.channels.set c x
          raised := [] }
        s1.AttemptEnded c t j p .noPort u k → exec i s = .next (u.withPartReport.withJobReport t k))
      ∧ (s.pins.card = true →
        let s1 : State := { s with
          pins := { s.pins with card := false }
          ports := { s.ports with card := { s.ports.card with state := .empty, capacity := 0 } }
          channels := s.channels.set c x
          raised := [] }
        s1.AttemptEnded c t j p .noPort u k → exec .cardRemove s = .next (u.withPartReport.withJobReport t k))

/-- The same where a RESCAN of the port is in service, which is answered too: a
flash probe that ends ABSENT, a wake that ends FAULTED or that the removal abandons (R92, R95, R96, R98,
R108, R109; Log 21). -/
def Claims.RescanRefusesClaims : Prop :=
  ∀ (s : State) (r : Request) (q : Port) (c : Chan) (t : Target) (j : Job) (b : Nat) (p : Position) (u : State) (k : Job),
    s.pins.reset = false → s.store.startup = .ready → s.link.handler = .serving r (.rescan q) → (s.ports.get q).reads = [] →
    (s.channels.get c).claim = some ⟨q, b⟩ → (∀ d, d ≠ c → s.claims d q = false) → (s.channels.get c).running = some t →
    s.job t = some j → j.position = some p → s.wanted.any (·.target = t) = false →
      let s1 := fun (x : PortState) => { s with
        ports := s.ports.set q { s.ports.get q with state := x, capacity := 0 }
        channels := s.channels.set c { s.channels.get c with claim := none, issue := (s.channels.get c).issue + 1 }
        raised := [] }
      (q = .flash0 ∨ q = .flash1 → (s.ports.get q).state = .probing → (s1 .absent).AttemptEnded c t j p .noPort u k →
        ∀ i ∈ [Instr.flashProbeAnswer q 0, .flashProbeTimeout q], exec i s
          = .next ((u.served r .ok [portCode q, 0#8, 0#8, 0#8, 0#8, 0#8]).withPartReport.withJobReport t k))
      ∧ (q = .card → (s.ports.get q).state = .waking →
        ((s1 .faulted).AttemptEnded c t j p .noPort u k → ∀ i ∈ [Instr.cardWakeError, .cardWakeTimeout], exec i s
          = .next ((u.served r .ok [2#8, 6#8, 0#8, 0#8, 0#8, 0#8]).withPartReport.withJobReport t k))
        ∧ (s.pins.card = true →
          State.AttemptEnded { s1 .empty with pins := { s.pins with card := false } } c t j p .noPort u k →
          exec .cardRemove s = .next ((u.served r .noPort []).withPartReport.withJobReport t k)))

/-- The flash probes of start-up: the first to end changes its port alone; at the end of the second
the part is in LOADING SETUP if FLASH0 is READY, and in READY on the defaults with reason NO
FLASH if it is ABSENT, here with no auto-start target (R92, R146, R149, R20). -/
def Claims.ProbesEndStartUp : Prop :=
  ∀ (s : State) (n : Nat), s.pins.reset = false → s.store.startup = .probingPorts → s.link.handler = .idle →
    s.channels = .all .reset →
      let ended : SourcePort → SourcePort := fun x =>
        if n = 0 then { x with state := .absent, capacity := 0 } else { x with state := .ready, capacity := min n 16777216 }
      let commands := fun p => Instr.flashProbeAnswer p n :: (if n = 0 then [Instr.flashProbeTimeout p] else [])
      let loading := { s.store with startup := .loadingSetup, loads := [] }
      let noFlash := { s.store with startup := .ready, loads := [], origin := .defaults, reason := .noFlash }
      let manual := ∀ t, ((s.record t).present && (s.record t).autoStart) = false
      (s.ports.flash0.state = .probing → ∀ i ∈ commands .flash0,
        let s1 := { s with ports := { s.ports with flash0 := ended s.ports.flash0 }, raised := [] }
        (s.ports.flash1.state = .probing → exec i s = .next s1.withPartReport)
        ∧ (s.ports.flash1.state ≠ .probing → 0 < n → exec i s = .next { s1 with store := loading }.withPartReport)
        ∧ (s.ports.flash1.state ≠ .probing → n = 0 → manual → exec i s = .next { s1 with store := noFlash }.withPartReport))
      ∧ (s.ports.flash1.state = .probing → ∀ i ∈ commands .flash1,
        let s1 := { s with ports := { s.ports with flash1 := ended s.ports.flash1 }, raised := [] }
        (s.ports.flash0.state = .probing → exec i s = .next s1.withPartReport)
        ∧ (s.ports.flash0.state = .ready → 0 < s.ports.flash0.capacity →
            exec i s = .next { s1 with store := loading }.withPartReport)
        ∧ (s.ports.flash0.state = .absent → manual → exec i s = .next { s1 with store := noFlash }.withPartReport))

/-- The flash and card ports follow their devices, and start-up the flash probes (R91, R92, R95,
R96, R146; Log 21 where a claim is answered NO PORT). -/
def Obligations.PortsFollowDevices : Prop :=
  Claims.FlashProbeEnds ∧ Claims.CardWakes ∧ Claims.CardRemoved ∧ Claims.CardRemovedUnderReads ∧ Claims.WaitingClaimRefused
    ∧ Claims.RescanRefusesClaims ∧ Claims.ProbesEndStartUp

/-- The end of a probe or of a wake answers the RESCAN in service: OK with the port's new state and capacity, READY, ABSENT or
FAULTED, and NO PORT where the card is removed during its wake; a PART report is queued. At READY the claims that wait go on
waiting; the other ends are told here with no claim waiting, and under PortsFollowDevices with one (R108, R109, R92, R95, R96). -/
def Claims.RescanIsAnswered : Prop :=
  ∀ (s : State) (r : Request), s.pins.reset = false →
    (∀ (p : Port), p = .flash0 ∨ p = .flash1 → s.link.handler = .serving r (.rescan p) → s.store.startup = .ready →
      (s.ports.get p).state = .probing →
        (∀ n, 0 < n → exec (.flashProbeAnswer p n) s
          = .next (({ s with ports := s.ports.set p { s.ports.get p with state := .ready, capacity := min n 16777216 } }).served
              r .ok (portCode p :: 2#8 :: le 4 (min n 16777216))).withPartReport)
        ∧ (s.claims .a p = false → s.claims .b p = false → ∀ i ∈ [Instr.flashProbeAnswer p 0, .flashProbeTimeout p],
          exec i s = .next (({ s with ports := s.ports.set p { s.ports.get p with state := .absent, capacity := 0 } }).served
              r .ok [portCode p, 0#8, 0#8, 0#8, 0#8, 0#8]).withPartReport))
    ∧ (s.link.handler = .serving r (.rescan .card) → s.ports.card.state = .waking →
        (∀ n, exec (.cardWakeComplete n) s
          = .next (({ s with ports := { s.ports with card :=
                { s.ports.card with state := .ready, capacity := min n 16777216 } } }).served
              r .ok (2#8 :: 2#8 :: le 4 (min n 16777216))).withPartReport)
        ∧ (s.claims .a .card = false → s.claims .b .card = false →
          (∀ i ∈ [Instr.cardWakeError, .cardWakeTimeout], exec i s
            = .next (({ s with ports := { s.ports with card := { s.ports.card with state := .faulted, capacity := 0 } } }).served
                r .ok [2#8, 6#8, 0#8, 0#8, 0#8, 0#8]).withPartReport)
          ∧ (s.pins.card = true → s.ports.card.reads = [] → exec .cardRemove s
            = .next (({ s with
                pins := { s.pins with card := false }
                ports := { s.ports with card := { s.ports.card with state := .empty, capacity := 0 } } }).served
                r .noPort []).withPartReport)))

/-- GRANT of a device port to a channel: the slot is reserved, the issue counter rises, the read at base + k is
outstanding, the channel is the last grantee, and the next claim is placed where one may be (R73, R72, R99, R101, R102). Which
of several FREE slots is reserved is the model's choice (Log 25). -/
def Obligations.GrantStartsDeviceRead : Prop :=
  ∀ (s : State) (p : Port) (c : Chan) (t : Target) (j : Job) (e : SourceEntry) (k : Nat), s.pins.reset = false →
    p ≠ .host → (s.ports.get p).state = .ready → (p = .flash0 → s.store.save = none) →
    (s.ports.get p).reads.length < s.settings.limits.get p → s.grantee p = some c →
    (s.channels.get c).running = some t → (s.channels.get c).claim = some ⟨p, k⟩ → s.job t = some j →
    j.entry = some e → e.port = p → e.base + k < (s.ports.get p).capacity →
      let x := (s.channels.get c).granted k
      let y := if mayClaim j x then { x with claim := some ⟨p, k + 1⟩ } else x
      exec (.grant p) s = .next { s with
        channels := s.channels.set c y
        ports := s.ports.set p
          { s.ports.get p with reads := (s.ports.get p).reads ++ [⟨.chan c k, e.base + k⟩], lastGrantee := c }
        raised := [] }

/-- GRANT on HOST: an entry joins the wanted set under the job's tag with the host block timer, and a WANT report is queued
(R73, R105, R113, R114, R121). Which of several FREE slots is reserved is the model's choice (Log 25). -/
def Obligations.GrantWantsHostBlock : Prop :=
  ∀ (s : State) (c : Chan) (t : Target) (j : Job) (e : SourceEntry) (k : Nat), s.pins.reset = false →
    s.ports.host.state = .ready → s.wanted.length < s.settings.limits.host → s.grantee .host = some c →
    (s.channels.get c).running = some t → (s.channels.get c).claim = some ⟨.host, k⟩ → s.job t = some j →
    j.entry = some e → e.port = .host →
      let x := (s.channels.get c).granted k
      let y := if mayClaim j x then { x with claim := some ⟨.host, k + 1⟩ } else x
      exec (.grant .host) s = .next (({ s with
        channels := s.channels.set c y
        ports := { s.ports with host := { s.ports.host with lastGrantee := c } }
        wanted := s.wanted ++ [(⟨t, j.tag, k, 100 * s.settings.hostTimeout⟩ : Wanted)]
        raised := [] } : State).withWantReport t j.tag)

/-- No grant is made while the port is not READY, while its outstanding count has reached its credit limit, on FLASH0 while
the setup writer claims it, or with no claim waiting; the command then changes nothing (R99, R101, R103; Log 1). -/
def Claims.GrantIsWithheld : Prop :=
  ∀ (s : State) (p : Port), s.pins.reset = false →
    ((s.ports.get p).state ≠ .ready ∨ s.settings.limits.get p ≤ s.outstanding p
      ∨ (p = .flash0 ∧ s.store.save.isSome = true)
      ∨ (s.claims .a p = false ∧ s.claims .b p = false ∧ s.link.handler = .idle)) →
      exec (.grant p) s = .next { s with raised := [] }

/-- R102's table: whom a grant goes to, by the mode of the live setup and the last grantee. -/
def Claims.ArbitrationFollowsMode : Prop :=
  ∀ (s : State) (p : Port),
    (s.claims .a p = true → s.claims .b p = true →
      (s.settings.modes.get p = .aFirst → s.grantee p = some .a)
      ∧ (s.settings.modes.get p = .bFirst → s.grantee p = some .b)
      ∧ (s.settings.modes.get p = .alternate → (s.ports.get p).lastGrantee = .a → s.grantee p = some .b)
      ∧ (s.settings.modes.get p = .alternate → (s.ports.get p).lastGrantee = .b → s.grantee p = some .a))
    ∧ (s.claims .a p = true → s.claims .b p = false → s.grantee p = some .a)
    ∧ (s.claims .a p = false → s.claims .b p = true → s.grantee p = some .b)
    ∧ (s.claims .a p = false → s.claims .b p = false → s.grantee p = none)

/-- GRANT to the PEEK path, which is granted where no channel waits: its read is outstanding, or is answered READ ERROR at
once at or beyond the capacity; the last grantee stays (R94, R101, R102, R107). -/
def Claims.GrantServesPeek : Prop :=
  ∀ (s : State) (p : Port) (a : Nat) (r : Request), s.pins.reset = false → (s.ports.get p).state = .ready →
    (p = .flash0 → s.store.save = none) → s.outstanding p < s.settings.limits.get p → s.claims .a p = false →
    s.claims .b p = false → s.peekClaim p = some a → s.link.handler = .serving r (.peek p a) →
      (a < (s.ports.get p).capacity → exec (.grant p) s = .next { s with
        ports := s.ports.set p { s.ports.get p with reads := (s.ports.get p).reads ++ [⟨.peek, a⟩] }, raised := [] })
      ∧ ((s.ports.get p).capacity ≤ a → exec (.grant p) s = .next (s.served r .readError []))

/-- When a port grants and to whom (R94, R99, R101, R102, R103). -/
def Obligations.GrantsFollowArbiter : Prop :=
  Claims.GrantIsWithheld ∧ Claims.ArbitrationFollowsMode ∧ Claims.GrantServesPeek

/-- READ_COMPLETE, READ_DEVICE_ERROR and READ_TIMER_EXPIRY of the PEEK path's read answer the PEEK in service (R107). -/
def Claims.PeekReadIsAnswered : Prop :=
  ∀ (s : State) (p : Port) (n a b : Nat) (r : Request) (data : List Byte), s.pins.reset = false →
    (p = .card ∨ (n = 0 ∧ (p = .flash0 ∨ p = .flash1))) → (s.ports.get p).reads[n]? = some ⟨.peek, b⟩ →
    s.link.handler = .serving r (.peek p a) → (p = .flash0 → s.store.save = none) →
      let s1 := { s with ports := s.ports.set p { s.ports.get p with reads := (s.ports.get p).reads.eraseIdx n } }
      (data.length = 128 →
        exec (.readComplete p n data) s = .next (s1.served r .ok (portCode p :: (le 4 a ++ data))))
      ∧ exec (.readDeviceError p n) s = .next (s1.served r .readError [])
      ∧ exec (.readTimerExpiry p n) s = .next (s1.served r .readError [])

/-- The events that end the work of a RESCAN or a PEEK in service answer it (R107, R108, R109). -/
def Obligations.PortRequestsAreAnswered : Prop := Claims.RescanIsAnswered ∧ Claims.PeekReadIsAnswered

/-- The end of a probe of a device position. FIRST: an accepted header starts the fetch in the same attempt, with block 0 on
the lane and the next claim placed; a refused one is logged, and the next position is probed, or the job fails with NO IMAGE
at the end of its last pass. NEWEST: an accepted header joins the candidate list, and the sweep goes on, or the fetch of the
best candidate starts. A header refused in either mode is logged with a JOB report. After it, and after a header accepted in
NEWEST mode, the search moves on to the next position, to the best candidate, or to the end of the pass, past what is
disabled. The port of the position moved to does not refuse (R77, R34, R39, R40, R41, R42, R43, R44, R46, R37). -/
def Obligations.ProbeIsJudged : Prop :=
  ∀ (s : State) (p : Port) (n a : Nat) (c : Chan) (t : Target) (j : Job) (e : SourceEntry) (q : Position)
    (data : List Byte), s.pins.reset = false → (p = .card ∨ (n = 0 ∧ (p = .flash0 ∨ p = .flash1))) →
    (s.ports.get p).reads[n]? = some ⟨.chan c 0, a⟩ → (p = .flash0 → s.store.save = none) →
    (s.channels.get c).running = some t → (s.channels.get c).slots = [.inFlight 0, .free, .free, .free] →
    (s.channels.get c).claim = none → s.job t = some j → j.state = .probing → j.entry = some e → e.port ≠ .host →
    s.refuses e.port = false → j.position = some q → j.phase = some .probe → data.length = 128 →
      let verdict := judge data (s.record t) j.relaxed
      let x := streamParams data
      let s1 := { s with
        ports := s.ports.set p { s.ports.get p with reads := (s.ports.get p).reads.eraseIdx n }
        raised := [] }
      let released := fun line : TargetPort =>
        if (s.record t).kind = .lane then line.release (s.pins.tflt.get t) (s.pins.trdy.get t) (s.record t) else line
      let started := fun (k : Job) (r : Position) (ph : Phase) =>
        { k with tag := k.tag + 1, position := some r, phase := some ph, delivered := 0, entry := some (s.source r) }
      let claims := fun r : Position =>
        { s.channels.get c with
          issue := 0, params := none, check := none, claim := some ⟨(s.source r).port, 0⟩
          slots := [.free, .free, .free, .free] }
      (verdict = none → (s.record t).mode = .first →
        let j1 := { j with state := .streaming, phase := some .fetch, delivered := 0 }
        let y := { s.channels.get c with
          params := some x, check := some 0xFFFFFFFF#32, slots := [.delivering 0 data, .free, .free, .free] }
        exec (.readComplete p n data) s = .next ((({ s1 with
          channels := s.channels.set c (if mayClaim j1 y then { y with claim := some ⟨e.port, y.issue⟩ } else y)
          lines := s.lines.set t
            ((released (s.lines.get t)).take 0 (payloadOf x.length 0 data) (s.pins.trdy.get t) (s.record t))
          } : State).withJob t j1).withJobReport t j1))
      ∧ (∀ o, verdict = some o → (s.record t).mode = .first →
        let j1 := { j with
          lastOutcome := some o
          log := (j.log ++ [(⟨j.pass, q, .probe, o⟩ : LogEntry)]).drop (j.log.length + 1 - 16) }
        (∀ r rs, j.rest = r :: rs → (s.source r).enabled = true → s.refuses (s.source r).port = false →
          exec (.readComplete p n data) s
            = .next ((({ s1 with channels := s.channels.set c (claims r) } : State).withJob t
                (started j1 r .probe)).withJobReport t (started j1 r .probe)))
        ∧ (j.rest = [] → j.passLimit ≠ 0 → j.passLimit ≤ j.pass →
          let j2 := { j1 with state := .failed, final := some .noImage, abortPending := false }
          exec (.readComplete p n data) s = .next ((({ s1 with
            channels := s.channels.set c { (s.channels.get c).left with slots := [.free, .free, .free, .free] }
            } : State).withJob t j2).withJobReport t j2)))
      ∧ (verdict = none → (s.record t).mode = .newest →
        let j1 := { j with candidates := insertCandidate ⟨q, x.version, x.length, data.take 32⟩ j.candidates }
        (∀ r rs, j.rest = r :: rs → (s.source r).enabled = true → s.refuses (s.source r).port = false →
          exec (.readComplete p n data) s
            = .next (({ s1 with channels := s.channels.set c (claims r) } : State).withJob t (started j1 r .probe)))
        ∧ (∀ best more, j.rest = [] → j1.candidates = best :: more → (s.source best.position).enabled = true →
          s.refuses (s.source best.position).port = false →
          let j2 := { started j1 best.position .fetch with state := .streaming }
          exec (.readComplete p n data) s = .next ((({ s1 with
            channels := s.channels.set c
              { claims best.position with params := some (streamParams best.header), check := some 0xFFFFFFFF#32 }
            lines := s.lines.set t (released (s.lines.get t)) } : State).withJob t j2).withJobReport t j2)))
      ∧ (∀ o u v, verdict = some o →
        State.ProbeEnded { s1 with
          channels := s.channels.set c { s.channels.get c with slots := [.free, .free, .free, .free] } } c t j q o u v →
        exec (.readComplete p n data) s = .next (u.withJobReport t v))
      ∧ (∀ u v, verdict = none → (s.record t).mode = .newest →
        State.Moved { s1 with
          channels := s.channels.set c { s.channels.get c with slots := [.free, .free, .free, .free] } } c t
            { j with candidates := insertCandidate ⟨q, x.version, x.length, data.take 32⟩ j.candidates } u v →
        exec (.readComplete p n data) s = .next (if v.state = .probing then u else u.withJobReport t v))

/-- READ_COMPLETE of block k > 0 of a device fetch, or of block 0 of a NEWEST fetch whose header equals the probed one: the slot
becomes HELD; the block whose turn it is goes to an idle lane in the same event, and no other block does (R74, R76, R78,
R79). -/
def Obligations.FetchedBlockIsHeld : Prop :=
  ∀ (s : State) (p : Port) (n k a : Nat) (c : Chan) (t : Target) (j : Job) (e : SourceEntry) (x : StreamParams)
    (data : List Byte), s.pins.reset = false → (p = .card ∨ (n = 0 ∧ (p = .flash0 ∨ p = .flash1))) →
    (s.ports.get p).reads[n]? = some ⟨.chan c k, a⟩ → (p = .flash0 → s.store.save = none) →
    (s.channels.get c).running = some t → s.job t = some j → j.state = .streaming → j.entry = some e →
    e.port ≠ .host → (s.channels.get c).params = some x → (k ≠ 0 ∨ data.take 32 = x.header) → data.length = 128 →
      let slots := setSlot k (.held k data) (s.channels.get c).slots
      let s1 := { s with
        ports := s.ports.set p { s.ports.get p with reads := (s.ports.get p).reads.eraseIdx n }
        raised := [] }
      (slots.any (·.isDelivering) = true ∨ heldBlock j.delivered slots = none →
        exec (.readComplete p n data) s
          = .next { s1 with channels := s.channels.set c { s.channels.get c with slots := slots } })
      ∧ (∀ d, slots.any (·.isDelivering) = false → heldBlock j.delivered slots = some d →
        exec (.readComplete p n data) s = .next { s1 with
          channels := s.channels.set c
            { s.channels.get c with slots := setSlot j.delivered (.delivering j.delivered d) slots }
          lines := s.lines.set t ((s.lines.get t).take j.delivered (payloadOf x.length j.delivered d)
            (s.pins.trdy.get t) (s.record t)) })

/-- Each completion that reaches a DRAINING job frees its slot and adds no outcome; the last one, with abort pending, makes
the job ABORTED and frees its channel (R85, R24). -/
def Obligations.DrainEndsAborted : Prop :=
  ∀ (s : State) (p : Port) (n k a : Nat) (c : Chan) (t : Target) (j : Job) (data : List Byte), s.pins.reset = false →
    (p = .card ∨ (n = 0 ∧ (p = .flash0 ∨ p = .flash1))) → (s.ports.get p).reads[n]? = some ⟨.chan c k, a⟩ →
    (p = .flash0 → s.store.save = none) → (s.channels.get c).running = some t → s.job t = some j →
    j.state = .draining → j.abortPending = true → data.length = 128 →
      let slots := setSlot k .free (s.channels.get c).slots
      let s1 := { s with
        ports := s.ports.set p { s.ports.get p with reads := (s.ports.get p).reads.eraseIdx n }
        raised := [] }
      let j1 := { j with state := .aborted, final := some .aborted, abortPending := false }
      let t1 := (({ s1 with channels := s.channels.set c ({ s.channels.get c with slots := slots } : Channel).left }).withJob
        t j1).withJobReport t j1
      (slots.any (·.isInFlight) = true →
        ∀ i ∈ [Instr.readComplete p n data, .readDeviceError p n, .readTimerExpiry p n],
          exec i s = .next { s1 with channels := s.channels.set c { s.channels.get c with slots := slots } })
      ∧ (slots.any (·.isInFlight) = false →
        ∀ i ∈ [Instr.readComplete p n data, .readDeviceError p n, .readTimerExpiry p n], exec i s = .next t1)

/-! ### Channels and jobs -/

/-- CHANNEL_TAKE: the head of the wait queue becomes the running job in PROBING, its tag rises, its first enabled position is
probed with the entry copied, and block 0 is claimed; in FIRST and in NEWEST mode alike. Disabled positions before it are
passed over, and where every position is disabled the pass ends at once with no attempt: no tag is used, and no log entry
added (R70, R36, R34, R13, R8, R35, R72, R37). -/
def Obligations.ChannelTakesHead : Prop :=
  ∀ (s : State) (c : Chan) (t : Target) (rest : List Target) (j : Job), s.pins.reset = false →
    (s.channels.get c).running = none → s.queues.get c = t :: rest → s.job t = some j → j.state ≠ .probing →
      let x := { s.channels.get c with running := some t, issue := 0, params := none, check := none }
      let s1 : State := { s with queues := s.queues.set c rest, raised := [] }
      (∀ (ds : List Position) (p : Position) (ps : List Position), j.effective = ds ++ p :: ps → s.Skips ds →
        (s.source p).enabled = true → s.refuses (s.source p).port = false →
        let j1 := { j with
          candidates := [], state := .probing, tag := j.tag + 1, position := some p, phase := some .probe
          delivered := 0, entry := some (s.source p) }
        exec (.channelTake c) s = .next ((({ s1 with
          channels := s.channels.set c { x with claim := some ⟨(s.source p).port, 0⟩ } } : State).withJob t j1).withJobReport
            t j1))
      ∧ (∀ u k, s.Skips j.effective →
        State.PassEnded { s1 with channels := s.channels.set c x } c t { j with candidates := [], state := .probing } u k →
        exec (.channelTake c) s = .next (u.withJobReport t k))

/-- BACKOFF_TIMER_EXPIRY: the job becomes QUEUED in the queue of the channel its class is mapped to (R17, R14, R15). -/
def Obligations.BackoffEndsQueued : Prop :=
  ∀ (s : State) (t : Target) (j : Job), s.pins.reset = false → s.job t = some j → j.state = .backoff →
    (s.jobs.get t).backoff.isSome = true →
      let j1 := { j with state := .queued }
      let c := s.settings.classMap (s.record t).cls
      exec (.backoffTimerExpiry t) s = .next (({ s with
        queues := s.queues.set c (insertByClass (fun u => (s.record u).cls) t (s.queues.get c))
        jobs := s.jobs.set t { s.jobs.get t with backoff := none, job := some j1 }
        raised := [] }).withJobReport t j1)

/-- R14: a job entering a queue ordered by class stands behind every entry of equal or lower class and ahead of every entry
of higher class, and the queue stays ordered. -/
def Claims.QueueEntryByClass : Prop :=
  ∀ (cls : Target → Fin 4) (t : Target) (q : List Target), q.Pairwise (fun a b => cls a ≤ cls b) →
    insertByClass cls t q
        = q.filter (fun u => decide (cls u ≤ cls t)) ++ t :: q.filter (fun u => decide (cls t < cls u))
      ∧ (insertByClass cls t q).Pairwise fun a b => cls a ≤ cls b

/-- R43: a candidate entering a list ordered by version descending and then by position ascending keeps that order, and
joins the entries without loss. -/
def Claims.CandidateOrderKept : Prop :=
  ∀ (x : Candidate) (l : List Candidate),
    let before := fun a b : Candidate =>
      b.version < a.version ∨ (a.version = b.version ∧ positionNum a.position < positionNum b.position)
    l.Pairwise before → (∀ y ∈ l, y.position ≠ x.position) →
      (insertCandidate x l).Pairwise before ∧ (insertCandidate x l).Perm (x :: l)

/-- Entry into a wait queue and into a candidate list (R14, R43). -/
def Obligations.OrderedEntries : Prop := Claims.QueueEntryByClass ∧ Claims.CandidateOrderKept

/-- BLOCK_DELIVERY_COMPLETE within a stream: the check advances over the payload bytes of the block, blocks delivered rises,
the slot is freed, the lane is idle; the next block, if it is HELD, goes to the lane, and a claim is placed where one may be
(R80, R129, R72). -/
def Obligations.DeliveredBlockAdvances : Prop :=
  ∀ (s : State) (t : Target) (tdone : Bool) (c : Chan) (j : Job) (e : SourceEntry) (x : StreamParams) (data : List Byte),
    s.pins.reset = false → (s.lines.get t).mayComplete = true → s.channelOf t = some c → s.job t = some j →
    j.state = .streaming → j.entry = some e → s.refuses e.port = false → (s.channels.get c).params = some x →
    deliveringBlock (s.channels.get c).slots = some data → j.delivered + 1 ≠ x.count →
      let slots := setSlot j.delivered .free (s.channels.get c).slots
      let check := (s.channels.get c).check.map fun reg => crc32Over reg (payloadOf x.length j.delivered data)
      let j1 := { j with delivered := j.delivered + 1 }
      let y := { s.channels.get c with slots := slots, check := check }
      let place := fun z : Channel => if mayClaim j1 z then { z with claim := some ⟨e.port, z.issue⟩ } else z
      let s1 := ({ s with
        pins := { s.pins with tdone := s.pins.tdone.set t tdone }
        lines := s.lines.set t (s.lines.get t).stopLane
        raised := [] } : State).withJob t j1
      (heldBlock (j.delivered + 1) slots = none →
        exec (.blockDeliveryComplete t tdone) s = .next { s1 with channels := s.channels.set c (place y) })
      ∧ (∀ d, heldBlock (j.delivered + 1) slots = some d → slots.any (·.isDelivering) = false →
        exec (.blockDeliveryComplete t tdone) s = .next { s1 with
          channels := s.channels.set c
            (place { y with slots := setSlot (j.delivered + 1) (.delivering (j.delivered + 1) d) slots })
          lines := s.lines.set t ((s.lines.get t).stopLane.take (j.delivered + 1)
            (payloadOf x.length (j.delivered + 1) d) (s.pins.trdy.get t) (s.record t)) })

/-- The end of the stream of a MEMORY target with a matching payload check: DELIVERED, LOADED, descriptor replaced, floor
raised where R26 says so, the line released, and a JOB report with the version (R82, R25, R26, R127). -/
def Claims.MemoryTargetDelivered : Prop :=
  ∀ (s : State) (t : Target) (tdone : Bool) (c : Chan) (j : Job) (x : StreamParams) (data : List Byte) (reg : Word32)
    (p : Position) (e : SourceEntry), s.pins.reset = false →
    (s.lines.get t).mayComplete = true → s.channelOf t = some c → s.job t = some j → (s.record t).kind = .memory →
    (s.channels.get c).params = some x → (s.channels.get c).check = some reg →
    deliveringBlock (s.channels.get c).slots = some data → j.delivered + 1 = x.count → j.position = some p →
    j.entry = some e → ~~~ crc32Over reg (payloadOf x.length j.delivered data) = x.check →
      let j1 := { j with delivered := j.delivered + 1, state := .delivered, final := some .delivered, abortPending := false }
      let y := { s.channels.get c with slots := setSlot j.delivered .free (s.channels.get c).slots }
      let s1 := { s with
        pins := { s.pins with tdone := s.pins.tdone.set t tdone }
        channels := s.channels.set c y
        lines := s.lines.set t
          ({ (s.lines.get t).stopLane with done := none }.release (s.pins.tflt.get t) (s.pins.trdy.get t) (s.record t))
        raised := [] }
      exec (.blockDeliveryComplete t tdone) s
        = .next ((s1.delivered c t { j with delivered := j.delivered + 1 } x p e).withJobReport t j1)

/-- The end of the stream of a LANE target with a matching payload check and TDONE deasserted: FINISHING, with the done timer
at the done timeout × 10 ms (R82, R132). -/
def Claims.LaneTargetFinishes : Prop :=
  ∀ (s : State) (t : Target) (c : Chan) (j : Job) (x : StreamParams) (data : List Byte) (reg : Word32), s.pins.reset = false →
    (s.lines.get t).mayComplete = true → s.channelOf t = some c → s.job t = some j → (s.record t).kind = .lane →
    j.state = .streaming → (s.channels.get c).params = some x → (s.channels.get c).check = some reg →
    deliveringBlock (s.channels.get c).slots = some data → j.delivered + 1 = x.count →
    ~~~ crc32Over reg (payloadOf x.length j.delivered data) = x.check →
      let j1 := { j with delivered := j.delivered + 1, state := .finishing }
      exec (.blockDeliveryComplete t false) s = .next ((({ s with
        pins := { s.pins with tdone := s.pins.tdone.set t false }
        channels := s.channels.set c
          { s.channels.get c with
            slots := setSlot j.delivered .free (s.channels.get c).slots
            check := some (crc32Over reg (payloadOf x.length j.delivered data)) }
        lines := s.lines.set t { (s.lines.get t).stopLane with done := some (10 * (s.record t).doneTimeout) }
        raised := [] } : State).withJob t j1).withJobReport t j1)

/-- The same with TDONE asserted: the job passes through FINISHING within the event and is DELIVERED, with no done timer and
its line as it was (R82, R132, R25, R26, R127). -/
def Claims.LaneTargetDelivered : Prop :=
  ∀ (s : State) (t : Target) (c : Chan) (j : Job) (x : StreamParams) (data : List Byte) (reg : Word32) (p : Position)
    (e : SourceEntry), s.pins.reset = false → (s.lines.get t).mayComplete = true → s.channelOf t = some c →
    s.job t = some j → (s.record t).kind = .lane → (s.channels.get c).params = some x → (s.channels.get c).check = some reg →
    deliveringBlock (s.channels.get c).slots = some data → j.delivered + 1 = x.count → j.position = some p →
    j.entry = some e → ~~~ crc32Over reg (payloadOf x.length j.delivered data) = x.check →
      let j1 := { j with delivered := j.delivered + 1, state := .delivered, final := some .delivered, abortPending := false }
      let s1 := { s with
        pins := { s.pins with tdone := s.pins.tdone.set t true }
        channels := s.channels.set c
          { s.channels.get c with slots := setSlot j.delivered .free (s.channels.get c).slots }
        lines := s.lines.set t { (s.lines.get t).stopLane with done := none }
        raised := [] }
      exec (.blockDeliveryComplete t true) s
        = .next ((s1.delivered c t { j with delivered := j.delivered + 1 } x p e).withJobReport t j1)

/-- The end of a stream whose payload check matches (R82). -/
def Obligations.StreamEnds : Prop :=
  Claims.MemoryTargetDelivered ∧ Claims.LaneTargetFinishes ∧ Claims.LaneTargetDelivered

/-! ### Ends of attempts -/

/-- READ_DEVICE_ERROR and READ_TIMER_EXPIRY of a channel's read: the slot is freed and the attempt ends with READ ERROR,
whatever the other blocks are at; in STREAMING the job drains or the search moves on, in PROBING the search moves on (R75,
R84, R39, R42). -/
def Claims.ReadErrorEndsAttempt : Prop :=
  ∀ (s : State) (p : Port) (n b a : Nat) (c : Chan) (t : Target) (j : Job) (e : SourceEntry) (q : Position) (u : State)
    (k : Job), s.pins.reset = false → (p = .card ∨ (n = 0 ∧ (p = .flash0 ∨ p = .flash1))) →
    (s.ports.get p).reads[n]? = some ⟨.chan c b, a⟩ → (p = .flash0 → s.store.save = none) →
    (s.channels.get c).running = some t → s.job t = some j → j.entry = some e → e.port ≠ .host →
    s.wanted.any (·.target = t) = false → j.position = some q →
      let s1 : State := { s with
        ports := s.ports.set p { s.ports.get p with reads := (s.ports.get p).reads.eraseIdx n }
        channels := s.channels.set c { s.channels.get c with slots := setSlot b .free (s.channels.get c).slots }
        raised := [] }
      s1.AttemptEnded c t j q .readError u k →
        ∀ i ∈ [Instr.readDeviceError p n, .readTimerExpiry p n], exec i s = .next (u.withJobReport t k)

/-- GRANT of a channel's claim for a block at or beyond the capacity of its port: the read completes in the grant with READ
ERROR and ends the attempt; the channel is the last grantee, and no read is outstanding (R94, R102, R75). -/
def Claims.ReadBeyondCapacityEnds : Prop :=
  ∀ (s : State) (p : Port) (c : Chan) (t : Target) (j : Job) (e : SourceEntry) (b : Nat) (q : Position) (u : State)
    (k : Job), s.pins.reset = false → p ≠ .host → (s.ports.get p).state = .ready → (p = .flash0 → s.store.save = none) →
    (s.ports.get p).reads.length < s.settings.limits.get p → s.grantee p = some c →
    (s.channels.get c).running = some t → (s.channels.get c).claim = some ⟨p, b⟩ → s.job t = some j →
    j.entry = some e → e.port = p → (s.ports.get p).capacity ≤ e.base + b → s.wanted.any (·.target = t) = false →
    j.position = some q →
      let x := (s.channels.get c).granted b
      let s1 : State := { s with
        ports := s.ports.set p { s.ports.get p with lastGrantee := c }
        channels := s.channels.set c { x with slots := setSlot b .free x.slots }
        raised := [] }
      s1.AttemptEnded c t j q .readError u k →
        exec (.grant p) s = .next (u.withJobReport t k)

/-- READ_COMPLETE of block 0 of a NEWEST fetch whose header differs from the probed one: the fetch ends with CHANGED (R44,
R78, R84). -/
def Claims.ChangedHeaderEndsFetch : Prop :=
  ∀ (s : State) (p : Port) (n a : Nat) (c : Chan) (t : Target) (j : Job) (e : SourceEntry) (x : StreamParams) (q : Position)
    (data : List Byte) (u : State) (k : Job), s.pins.reset = false → (p = .card ∨ (n = 0 ∧ (p = .flash0 ∨ p = .flash1))) →
    (s.ports.get p).reads[n]? = some ⟨.chan c 0, a⟩ → (p = .flash0 → s.store.save = none) →
    (s.channels.get c).running = some t → s.job t = some j → j.state = .streaming → j.entry = some e → e.port ≠ .host →
    s.wanted.any (·.target = t) = false → (s.channels.get c).params = some x → data.length = 128 →
    data.take 32 ≠ x.header → j.position = some q → j.phase = some .fetch →
      State.FetchEnded { s with
        ports := s.ports.set p { s.ports.get p with reads := (s.ports.get p).reads.eraseIdx n }
        channels := s.channels.set c { s.channels.get c with slots := setSlot 0 .free (s.channels.get c).slots }
        raised := [] } c t j q .changed u k →
      exec (.readComplete p n data) s = .next (u.withJobReport t k)

/-- DATA_FRAME of a wanted block of a length other than its image length: in a fetch, and for block 0 at the acceptance of a
FIRST probe, the attempt ends with STREAM ERROR; and a block 0 of a NEWEST fetch that does not hold the probed header ends it
with CHANGED, whatever its length. The other HOST reads are cancelled, so nothing drains, and a JOB and a WANT report are
queued (Log 8). A LANE target's line, released as the probe is accepted, stands asserted again (Log 18) (R81, R78, R84, R116,
R77). -/
def Claims.WrongLengthEndsFetch : Prop :=
  ∀ (s : State) (b : Byte) (f : Frame) (d : DataFields) (c : Chan) (j : Job) (e : SourceEntry) (q : Position) (u : State)
    (k : Job), s.pins.reset = false → s.link.receiver.classify b = .data f → parseData f.payload = some d →
    s.channelOf d.target = some c → s.job d.target = some j → j.entry = some e → e.port = .host → j.position = some q →
      let hit := fun w : Wanted => decide (w.target = d.target ∧ w.tag = d.tag ∧ w.block = d.block)
      let x := { s.channels.get c with slots := setSlot d.block .free (s.channels.get c).slots }
      let s1 : State := { s with
        link := { s.link with receiver := .hunting, gap := none }
        reports := s.reports.endQuiet
        wanted := s.wanted.filter fun w => !hit w
        channels := s.channels.set c x
        raised := [] }
      s.wanted.any hit = true →
        (∀ y, j.state = .streaming → j.phase = some .fetch → (s.channels.get c).params = some y →
          (d.block ≠ 0 ∨ (32 ≤ d.data.length ∧ d.data.take 32 = y.header)) →
          d.data.length ≠ blockLength y.length d.block → s1.FetchEnded c d.target j q .streamError u k →
          exec (.dataFrame b) s = .next ((u.withJobReport d.target k).withWantReport d.target k.tag))
        ∧ (∀ y, j.state = .streaming → j.phase = some .fetch → (s.channels.get c).params = some y → d.block = 0 →
          (d.data.length < 32 ∨ d.data.take 32 ≠ y.header) → s1.FetchEnded c d.target j q .changed u k →
          exec (.dataFrame b) s = .next ((u.withJobReport d.target k).withWantReport d.target k.tag))
        ∧ (let y := streamParams d.data
          j.state = .probing → (s.record d.target).mode = .first → d.block = 0 →
          judge d.data (s.record d.target) j.relaxed = none → d.data.length ≠ blockLength y.length 0 →
          State.FetchEnded { s1 with
            channels := s.channels.set c { x with params := some y, check := some 0xFFFFFFFF#32 }
            lines := s.lines.set d.target (s.startedLine d.target) } c d.target
            { j with state := .streaming, phase := some .fetch, delivered := 0 } q .streamError u k →
          exec (.dataFrame b) s = .next ((u.withJobReport d.target k).withWantReport d.target k.tag))

/-- BLOCK_DELIVERY_COMPLETE of the last block with a payload check that differs: the fetch ends with CHECKSUM, with every
block counted as delivered (R82, R84). -/
def Claims.ChecksumEndsFetch : Prop :=
  ∀ (s : State) (t : Target) (tdone : Bool) (c : Chan) (j : Job) (x : StreamParams) (data : List Byte) (reg : Word32)
    (q : Position) (u : State) (k : Job), s.pins.reset = false → (s.lines.get t).mayComplete = true →
    s.channelOf t = some c → s.job t = some j → j.state = .streaming → (s.channels.get c).params = some x →
    (s.channels.get c).check = some reg → deliveringBlock (s.channels.get c).slots = some data →
    j.delivered + 1 = x.count → ~~~ crc32Over reg (payloadOf x.length j.delivered data) ≠ x.check →
    s.wanted.any (·.target = t) = false → j.position = some q → j.phase = some .fetch →
      State.FetchEnded { s with
        pins := { s.pins with tdone := s.pins.tdone.set t tdone }
        channels := s.channels.set c
          { s.channels.get c with slots := setSlot j.delivered .free (s.channels.get c).slots }
        raised := [] } c t { j with delivered := j.delivered + 1 } q .checksum u k →
      exec (.blockDeliveryComplete t tdone) s = .next (u.withJobReport t k)

/-- TFLT_ASSERT while the line is RELEASED, and FAULT_TAKE of a fault left pending, for a job in STREAMING or FINISHING that
reads from a device: the attempt ends with TARGET FAULT (R134, R135, R84, R133). -/
def Claims.TargetFaultEndsAttempt : Prop :=
  ∀ (s : State) (t : Target) (c : Chan) (j : Job) (q : Position) (u : State) (k : Job), s.pins.reset = false →
    s.channelOf t = some c → s.job t = some j → (j.state = .streaming ∨ j.state = .finishing) →
    s.wanted.any (·.target = t) = false → j.position = some q → j.phase = some .fetch →
      (s.pins.tflt.get t = false → (s.lines.get t).line = .released →
        State.FetchEnded { s with pins := { s.pins with tflt := s.pins.tflt.set t true }, raised := [] } c t j q .targetFault
          u k →
        exec (.tfltAssert t) s = .next (u.withJobReport t k))
      ∧ ((s.lines.get t).faultPending = true →
        State.FetchEnded { s with
          lines := s.lines.set t { s.lines.get t with faultPending := false }, raised := [] } c t j q .targetFault u k →
        exec (.faultTake t) s = .next (u.withJobReport t k))

/-- The ends of attempts with READ ERROR, CHANGED, STREAM ERROR, CHECKSUM and TARGET FAULT (R75, R94, R78, R81, R82, R135). -/
def Obligations.AttemptsEnd : Prop :=
  Claims.ReadErrorEndsAttempt ∧ Claims.ReadBeyondCapacityEnds ∧ Claims.ChangedHeaderEndsFetch ∧ Claims.WrongLengthEndsFetch
    ∧ Claims.ChecksumEndsFetch ∧ Claims.TargetFaultEndsAttempt

/-- A claim placed on a port that refuses is answered NO PORT in the event: at a CHANNEL_TAKE the first attempt ends at once
and the search moves on to the positions behind it; in BLOCK_DELIVERY_COMPLETE the claim of the next block ends the fetch
(R98, R72, R70, R80, R34). That such an answer raises the issue counter and leaves the port's last grantee is the model's
choice (Log 21). -/
def Claims.RefusedClaimEndsAttempt : Prop :=
  (∀ (s : State) (c : Chan) (t : Target) (rest : List Target) (j : Job) (ds : List Position) (p : Position)
    (ps : List Position) (u : State) (k : Job), s.pins.reset = false → (s.channels.get c).running = none →
    (s.channels.get c).claim = none → s.queues.get c = t :: rest → s.job t = some j → j.state = .queued →
    j.effective = ds ++ p :: ps → s.Skips ds → (s.source p).enabled = true → s.refuses (s.source p).port = true →
      let j1 := { (j.attempting p .probe (s.source p)) with candidates := [], state := .probing }
      j1.rest = ps →
      State.ProbeEnded { s with
        queues := s.queues.set c rest
        channels := s.channels.set c
          { s.channels.get c with running := some t, issue := 1, params := none, check := none }
        raised := [] } c t j1 p .noPort u k →
      exec (.channelTake c) s = .next (u.withJobReport t k))
  ∧ ∀ (s : State) (t : Target) (tdone : Bool) (c : Chan) (j : Job) (e : SourceEntry) (x : StreamParams) (data : List Byte)
      (q : Position) (u : State) (k : Job), s.pins.reset = false → (s.lines.get t).mayComplete = true →
      s.channelOf t = some c → s.job t = some j → j.state = .streaming → j.entry = some e → s.refuses e.port = true →
      (s.channels.get c).params = some x → deliveringBlock (s.channels.get c).slots = some data →
      j.delivered + 1 ≠ x.count → s.wanted.any (·.target = t) = false → j.position = some q → j.phase = some .fetch →
        let y := { s.channels.get c with slots := setSlot j.delivered .free (s.channels.get c).slots }
        let j1 := { j with delivered := j.delivered + 1 }
        heldBlock (j.delivered + 1) y.slots = none → mayClaim j1 y = true →
        State.FetchEnded { s with
          pins := { s.pins with tdone := s.pins.tdone.set t tdone }
          channels := s.channels.set c { y with issue := y.issue + 1 }
          raised := [] } c t j1 q .noPort u k →
        exec (.blockDeliveryComplete t tdone) s = .next (u.withJobReport t k)

/-- The completions that reach a DRAINING job without abort pending: each frees its slot and adds no outcome, and at the last
one the search moves on: to the next enabled position, to the next enabled candidate, those disabled being passed over or
dropped with no attempt, or to the end of the pass, which leaves the job FAILED, QUEUED or in BACKOFF (R85, R84, R34, R41,
R45, R46, R37, R17). -/
def Claims.DrainMovesOn : Prop :=
  ∀ (s : State) (p : Port) (n b a : Nat) (c : Chan) (t : Target) (j : Job) (data : List Byte), s.pins.reset = false →
    (p = .card ∨ (n = 0 ∧ (p = .flash0 ∨ p = .flash1))) → (s.ports.get p).reads[n]? = some ⟨.chan c b, a⟩ →
    (p = .flash0 → s.store.save = none) → (s.channels.get c).running = some t → s.job t = some j →
    j.state = .draining → j.abortPending = false → data.length = 128 →
      let slots := setSlot b .free (s.channels.get c).slots
      let s1 : State := { s with
        ports := s.ports.set p { s.ports.get p with reads := (s.ports.get p).reads.eraseIdx n }
        channels := s.channels.set c { s.channels.get c with slots := slots }
        raised := [] }
      (slots.any (·.isInFlight) = true →
        ∀ i ∈ [Instr.readComplete p n data, .readDeviceError p n, .readTimerExpiry p n], exec i s = .next s1)
      ∧ (∀ u k, slots.any (·.isInFlight) = false → s1.Moved c t j u k →
        ∀ i ∈ [Instr.readComplete p n data, .readDeviceError p n, .readTimerExpiry p n],
          exec i s = .next (u.withJobReport t k))

/-- Where the search goes on without a read of its own: claims refused at once (Log 21), and drains (R98, R85, R34, R46, R37,
R17). -/
def Obligations.SearchMovesOn : Prop := Claims.RefusedClaimEndsAttempt ∧ Claims.DrainMovesOn

/-! ### Target Ports -/

/-- TRDY_ASSERT resumes a stalled lane and TRDY_DEASSERT stalls a sending one with the ready timer at the ready timeout ×
10 ms, the bytes left being as told (Log 5); PULSE_TIMER_EXPIRY ends the pulse; TFLT_DEASSERT ends a pending take (R128, R129, R130,
R134). -/
def Claims.LineInputsAndPulse : Prop :=
  ∀ (s : State) (t : Target), s.pins.reset = false →
    let x := s.lines.get t
    (x.lane = .waitingReady → exec (.trdyAssert t) s = .next { s with
      pins := { s.pins with trdy := s.pins.trdy.set t true }
      lines := s.lines.set t { x with lane := .sending, ready := none }
      raised := [] })
    ∧ (∀ (b : LaneBlock) (left : Nat), x.lane = .sending → x.block = some b → left ≤ b.left.length →
      exec (.trdyDeassert t left) s = .next { s with
        pins := { s.pins with trdy := s.pins.trdy.set t false }
        lines := s.lines.set t
          { x with
            lane := .waitingReady, ready := some (10 * (s.record t).readyTimeout)
            block := some { b with left := b.left.drop (b.left.length - left) } }
        raised := [] })
    ∧ (x.pulse.isSome = true → x.line ≠ .releasing → exec (.pulseTimerExpiry t) s = .next { s with
        lines := s.lines.set t { x with pulse := none }, raised := [] })
    ∧ (x.pulse.isSome = true → x.line = .releasing → x.lane ≠ .waitingRelease →
      exec (.pulseTimerExpiry t) s = .next { s with
        lines := s.lines.set t { x with pulse := none, line := .released, faultPending := s.pins.tflt.get t }
        raised := [] })
    ∧ (∀ b : LaneBlock, x.pulse.isSome = true → x.line = .releasing → x.lane = .waitingRelease → x.block = some b →
      exec (.pulseTimerExpiry t) s = .next { s with
        lines := s.lines.set t
          { x with
            pulse := none, line := .released, faultPending := s.pins.tflt.get t
            lane := if s.pins.trdy.get t then .sending else .waitingReady
            ready := if s.pins.trdy.get t then none else some (10 * (s.record t).readyTimeout)
            block := some { b with startOwed := false } }
        raised := [] })
    ∧ exec (.tfltDeassert t) s = .next { s with
        pins := { s.pins with tflt := s.pins.tflt.set t false }
        lines := s.lines.set t { x with faultPending := false }
        raised := [] }

/-- R127, R128: what an assertion and a release do to a line and its pulse timer. -/
def Claims.PulseKeepsAssertionLong : Prop :=
  ∀ (x : TargetPort) (tflt trdy : Bool) (r : TargetRecord),
    (x.line = .released → x.assert = { x with line := .asserted, pulse := some 1, faultPending := false })
    ∧ (x.line ≠ .released → x.assert = { x with line := .asserted, faultPending := false })
    ∧ (x.line = .released → x.release tflt trdy r = x)
    ∧ (x.line ≠ .released → x.pulse.isSome = true → x.release tflt trdy r = { x with line := .releasing })
    ∧ (x.line ≠ .released → x.pulse = none → x.lane ≠ .waitingRelease →
        x.release tflt trdy r = { x with line := .released, faultPending := tflt })

/-- The line, its pulse, and the inputs of a target (R127 to R130, R134). -/
def Obligations.LineAndLaneInputs : Prop := Claims.LineInputsAndPulse ∧ Claims.PulseKeepsAssertionLong

/-- READY_TIMER_EXPIRY of a device fetch with reads in flight: the delivery is stopped, the attempt ends with READY TIMEOUT,
held blocks are discarded, a LANE target's line is asserted and the job drains (R130, R131, R84, R13, R48, R127). -/
def Obligations.ReadyTimeoutDrains : Prop :=
  ∀ (s : State) (t : Target) (c : Chan) (j : Job) (e : SourceEntry) (p : Position) (ph : Phase), s.pins.reset = false →
    (s.lines.get t).ready.isSome = true → s.channelOf t = some c → s.job t = some j → j.state = .streaming →
    j.position = some p → j.phase = some ph → j.entry = some e → e.port ≠ .host → s.wanted.any (·.target = t) = false →
    (s.channels.get c).slots.any (·.isInFlight) = true →
      let j1 := { j with
        state := .draining
        lastOutcome := some .readyTimeout
        log := (j.log ++ [(⟨j.pass, p, ph, .readyTimeout⟩ : LogEntry)]).drop (j.log.length + 1 - 16)
        candidates := if (s.record t).mode = .newest then j.candidates.tail else j.candidates }
      let idle := { s.lines.get t with lane := .idle, block := none, ready := none, done := none }
      exec (.readyTimerExpiry t) s = .next ((({ s with
        channels := s.channels.set c
          { s.channels.get c with
            claim := none
            slots := (s.channels.get c).slots.map fun y => if y.isInFlight then y else .free
            check := none }
        lines := s.lines.set t (if (s.record t).kind = .lane then idle.assert else idle)
        raised := [] } : State).withJob t j1).withJobReport t j1)

/-- DONE_TIMER_EXPIRY at the last position of the last pass: the attempt ends with DONE TIMEOUT, the line is asserted, and the
job is FAILED with NO IMAGE (R133, R83, R37, R127). -/
def Obligations.DoneTimeoutFails : Prop :=
  ∀ (s : State) (t : Target) (c : Chan) (j : Job) (p : Position) (ph : Phase), s.pins.reset = false →
    (s.lines.get t).done.isSome = true → s.channelOf t = some c → s.job t = some j → j.state = .finishing →
    j.position = some p → j.phase = some ph → s.wanted.any (·.target = t) = false → (s.record t).kind = .lane →
    (s.record t).mode = .first → j.rest = [] → (s.channels.get c).slots = [.free, .free, .free, .free] →
    j.passLimit ≠ 0 → j.passLimit ≤ j.pass →
      let j1 := { j with
        state := .failed
        final := some .noImage
        abortPending := false
        lastOutcome := some .doneTimeout
        log := (j.log ++ [(⟨j.pass, p, ph, .doneTimeout⟩ : LogEntry)]).drop (j.log.length + 1 - 16) }
      exec (.doneTimerExpiry t) s = .next ((({ s with
        channels := s.channels.set c { (s.channels.get c).left with claim := none }
        lines := s.lines.set t
          ({ s.lines.get t with lane := .idle, block := none, ready := none, done := none } : TargetPort).assert
        raised := [] } : State).withJob t j1).withJobReport t j1)

/-- TDONE_ASSERT for a job in FINISHING: DELIVERED, the done timer stopped, the line as it was (R133, R25). In any other
state TDONE is not taken (R132). -/
def Obligations.TdoneDelivers : Prop :=
  ∀ (s : State) (t : Target) (j : Job), s.pins.reset = false → s.job t = some j → (s.record t).kind = .lane →
    (∀ (c : Chan) (x : StreamParams) (p : Position) (e : SourceEntry), s.channelOf t = some c → j.state = .finishing →
      (s.channels.get c).params = some x → j.position = some p → j.entry = some e →
        exec (.tdoneAssert t) s = .next ((({ s with
          pins := { s.pins with tdone := s.pins.tdone.set t true }
          lines := s.lines.set t { s.lines.get t with done := none }
          raised := [] } : State).delivered c t j x p e).withJobReport t
            { j with state := .delivered, final := some .delivered, abortPending := false }))
    ∧ (j.state ≠ .finishing →
        exec (.tdoneAssert t) s
          = .next { s with pins := { s.pins with tdone := s.pins.tdone.set t true }, raised := [] })

/-- TFLT_ASSERT and FAULT_TAKE of a LOADED target with no non-final job and no reload: FAULTED, the line left RELEASED, and a
JOB report (R21, R134, R136). -/
def Claims.FaultAfterDelivery : Prop :=
  ∀ (s : State) (t : Target) (j : Job), s.pins.reset = false → s.job t = some j → j.state.isFinal = true →
    (s.jobs.get t).condition = .loaded → ((s.record t).present && (s.record t).reload) = false →
      let jobs := s.jobs.set t { s.jobs.get t with condition := .faulted }
      (s.pins.tflt.get t = false → (s.lines.get t).line = .released →
        exec (.tfltAssert t) s = .next (({ s with
          pins := { s.pins with tflt := s.pins.tflt.set t true }, jobs := jobs, raised := [] }).withJobReport t j))
      ∧ ((s.lines.get t).faultPending = true →
        exec (.faultTake t) s = .next (({ s with
          lines := s.lines.set t { s.lines.get t with faultPending := false }, jobs := jobs, raised := [] }).withJobReport
            t j))

/-- A fault after delivery on a present target with reload on fault set: FAULTED, and a FAULT RELOAD job under the old tag,
whose creation asserts the line (R21, R9, R136, R127). -/
def Claims.FaultReloads : Prop :=
  ∀ (s : State) (t : Target) (j : Job), s.pins.reset = false → s.job t = some j → j.state.isFinal = true →
    (s.jobs.get t).condition = .loaded → (s.record t).present = true → (s.record t).reload = true →
    s.pins.tflt.get t = false → (s.lines.get t).line = .released →
      ∃ u k, exec (.tfltAssert t) s = .next u ∧ u.job t = some k ∧ k.origin = .faultReload ∧ k.relaxed = false
        ∧ k.tag = j.tag ∧ k.only = none ∧ k.log = [] ∧ (u.jobs.get t).condition = .faulted
        ∧ (u.jobs.get t).descriptor = (s.jobs.get t).descriptor ∧ (u.lines.get t).line = .asserted
        ∧ (u.lines.get t).pulse = some 1 ∧ (s.effectiveSet t none = [] → k.state = .failed ∧ k.final = some .noSources)
        ∧ (s.effectiveSet t none ≠ [] → k.state = .queued ∧ k.final = none ∧ k.effective = s.effectiveSet t none)
        ∧ (∀ v, v ≠ t → u.jobs.get v = s.jobs.get v ∧ u.lines.get v = s.lines.get v)

/-- A fault after delivery, without and with a reload (R21, R136). -/
def Obligations.FaultsAfterDelivery : Prop := Claims.FaultAfterDelivery ∧ Claims.FaultReloads

/-! ### Host stream -/

/-- DATA_FRAME whose key is that of a wanted entry, in a fetch: the entry leaves the set, its read completes into its slot, the
block whose turn it is goes to an idle lane in the same event, and a WANT report is queued (R115, R116, R74, R78, R79, R81); a
frame that is malformed or of no entry is discarded, and changes nothing but what every good frame changes (R115, R117,
R187). -/
def Claims.DataFrameMatches : Prop :=
  ∀ (s : State) (b : Byte) (f : Frame), s.pins.reset = false → s.link.receiver.classify b = .data f →
    let s1 := { s with
      link := { s.link with receiver := .hunting, gap := none }
      reports := s.reports.endQuiet
      raised := [] }
    (parseData f.payload = none → exec (.dataFrame b) s = .next s1)
    ∧ ∀ d, parseData f.payload = some d →
      let hit := fun w : Wanted => decide (w.target = d.target ∧ w.tag = d.tag ∧ w.block = d.block)
      (s.wanted.any hit = false → exec (.dataFrame b) s = .next s1)
      ∧ (∀ (c : Chan) (j : Job) (e : SourceEntry) (x : StreamParams), s.wanted.any hit = true →
          s.channelOf d.target = some c → s.job d.target = some j → j.state = .streaming → j.entry = some e →
          e.port = .host → (s.channels.get c).params = some x →
          (d.block ≠ 0 ∨ (32 ≤ d.data.length ∧ d.data.take 32 = x.header)) →
          d.data.length = blockLength x.length d.block →
            let slots := setSlot d.block (.held d.block d.data) (s.channels.get c).slots
            let s2 := { s1 with wanted := s.wanted.filter fun w => !hit w }
            (slots.any (·.isDelivering) = true ∨ heldBlock j.delivered slots = none →
              exec (.dataFrame b) s = .next ({ s2 with
                channels := s.channels.set c { s.channels.get c with slots := slots } }.withWantReport d.target j.tag))
            ∧ (∀ g, slots.any (·.isDelivering) = false → heldBlock j.delivered slots = some g →
              exec (.dataFrame b) s = .next ({ s2 with
                channels := s.channels.set c
                  { s.channels.get c with slots := setSlot j.delivered (.delivering j.delivered g) slots }
                lines := s.lines.set d.target ((s.lines.get d.target).take j.delivered (payloadOf x.length j.delivered g)
                  (s.pins.trdy.get d.target) (s.record d.target)) }.withWantReport d.target j.tag)))

/-- DATA_FRAME of the wanted block 0 of a probe. A refused header is logged, and the search moves on; one accepted in NEWEST
mode joins the candidate list, whatever the block's length, and the search moves on; one accepted in FIRST mode with the
image length of block 0 starts the fetch in the same attempt, with block 0 on the lane and the next claim placed. A WANT
report is queued, and a JOB report where the state changes or an outcome is logged (R116, R77, R39, R40, R42, R43, R81, R121;
Log 8). -/
def Claims.HostProbeIsJudged : Prop :=
  ∀ (s : State) (b : Byte) (f : Frame) (d : DataFields) (c : Chan) (j : Job) (e : SourceEntry) (q : Position) (u : State)
    (k : Job), s.pins.reset = false → s.link.receiver.classify b = .data f → parseData f.payload = some d →
    s.channelOf d.target = some c → s.job d.target = some j → j.state = .probing → j.entry = some e → e.port = .host →
    j.position = some q → j.phase = some .probe → d.block = 0 →
    (s.channels.get c).slots = [.inFlight 0, .free, .free, .free] → (s.channels.get c).claim = none →
      let t := d.target
      let hit := fun w : Wanted => decide (w.target = t ∧ w.tag = d.tag ∧ w.block = d.block)
      let x := streamParams d.data
      let s1 : State := { s with
        link := { s.link with receiver := .hunting, gap := none }
        reports := s.reports.endQuiet
        wanted := s.wanted.filter fun w => !hit w
        raised := [] }
      let freed : State := { s1 with
        channels := s.channels.set c { s.channels.get c with slots := [.free, .free, .free, .free] } }
      s.wanted.any hit = true →
        (∀ o, judge d.data (s.record t) j.relaxed = some o → freed.ProbeEnded c t j q o u k →
          exec (.dataFrame b) s = .next ((u.withJobReport t k).withWantReport t k.tag))
        ∧ (judge d.data (s.record t) j.relaxed = none → (s.record t).mode = .newest →
          freed.Moved c t
            { j with candidates := insertCandidate ⟨q, x.version, x.length, d.data.take 32⟩ j.candidates } u k →
          exec (.dataFrame b) s
            = .next ((if k.state = .probing then u else u.withJobReport t k).withWantReport t k.tag))
        ∧ (judge d.data (s.record t) j.relaxed = none → (s.record t).mode = .first →
          d.data.length = blockLength x.length 0 → s.ports.host.state = .ready →
            let j1 := { j with state := .streaming, phase := some .fetch, delivered := 0 }
            let y := { s.channels.get c with
              params := some x, check := some 0xFFFFFFFF#32, slots := [.delivering 0 d.data, .free, .free, .free] }
            exec (.dataFrame b) s = .next (((({ s1 with
              channels := s.channels.set c (if mayClaim j1 y then { y with claim := some ⟨.host, y.issue⟩ } else y)
              lines := s.lines.set t
                ((s.startedLine t).take 0 (payloadOf x.length 0 d.data) (s.pins.trdy.get t) (s.record t))
              } : State).withJob t j1).withJobReport t j1).withWantReport t j.tag))

/-- What a DATA frame does to a fetch and to a probe, and the frames that are discarded (R115, R116, R117). -/
def Obligations.DataFrameMatchesWanted : Prop := Claims.DataFrameMatches ∧ Claims.HostProbeIsJudged

/-- HOST_BLOCK_TIMER_EXPIRY in a probe at the last position of the last pass: the entry leaves the wanted set, the attempt
ends with HOST TIMEOUT, the job is FAILED with NO IMAGE, and a JOB and a WANT report are queued (R118, R75, R39, R37). -/
def Claims.HostTimeoutEndsLastProbe : Prop :=
  ∀ (s : State) (t : Target) (c : Chan) (j : Job) (w : Wanted) (p : Position) (ph : Phase), s.pins.reset = false →
    s.wanted = [w] → w.target = t → w.block = 0 → s.channelOf t = some c → s.job t = some j → j.state = .probing →
    j.position = some p → j.phase = some ph → (s.record t).mode = .first → j.rest = [] → j.passLimit ≠ 0 →
    j.passLimit ≤ j.pass →
      let j1 := { j with
        state := .failed
        final := some .noImage
        abortPending := false
        lastOutcome := some .hostTimeout
        log := (j.log ++ [(⟨j.pass, p, ph, .hostTimeout⟩ : LogEntry)]).drop (j.log.length + 1 - 16) }
      exec (.hostBlockTimerExpiry t 0) s = .next (((({ s with
        wanted := []
        channels := s.channels.set c
          { (s.channels.get c).left with claim := none, slots := setSlot 0 .free (s.channels.get c).slots }
        raised := [] } : State).withJob t j1).withJobReport t j1).withWantReport t j.tag)

/-- HOST_BLOCK_TIMER_EXPIRY in a fetch or a probe: the entry leaves the wanted set, its slot is freed, and the attempt ends
with HOST TIMEOUT; in a fetch the other entries of the target leave the set too and their slots are freed, so nothing drains.
The search moves on, and a JOB and a WANT report, which lists what the target still wants under the tag of the attempt that
follows, are queued (R118, R120, R84, R75, R121; Log 8). -/
def Claims.HostTimeoutEndsAttempt : Prop :=
  ∀ (s : State) (t : Target) (b : Nat) (w : Wanted) (c : Chan) (j : Job) (e : SourceEntry) (q : Position) (u : State)
    (k : Job), s.pins.reset = false → s.wanted.find? (fun v => decide (v.target = t ∧ v.block = b)) = some w →
    s.channelOf t = some c → s.job t = some j → j.entry = some e → e.port = .host → j.position = some q →
      State.AttemptEnded { s with
        wanted := s.wanted.filter fun v => !decide (v.target = t ∧ v.tag = w.tag ∧ v.block = b)
        channels := s.channels.set c { s.channels.get c with slots := setSlot b .free (s.channels.get c).slots }
        raised := [] } c t j q .hostTimeout u k →
      exec (.hostBlockTimerExpiry t b) s = .next ((u.withJobReport t k).withWantReport t k.tag)

/-- The expiry of a host block timer, and what it leads to at the end of the last pass (R118). -/
def Obligations.HostTimeoutEndsProbe : Prop := Claims.HostTimeoutEndsLastProbe ∧ Claims.HostTimeoutEndsAttempt

/-! ### The host link -/

/-- BYTE_RECEIVED, FRAME_LENGTH_DISCARD, FRAME_CHECK_DISCARD, CHARACTER_FAULT and GAP_TIMER_EXPIRY: what each does to the
frame under assembly, the gap timer and its discard count, which stops at 65,535 (R161, R162, R163, R164, R165). -/
def Obligations.ReceiverFindsFrames : Prop :=
  ∀ (s : State) (b : Byte), s.pins.reset = false →
    let hunting := { s.link with receiver := .hunting, gap := none }
    let up := fun n : Nat => if n < 65535 then n + 1 else n
    let lengthDiscard := { s with link := { hunting with lengthDiscards := up s.link.lengthDiscards }, raised := [] }
    let checkDiscard := { s with link := { hunting with checkDiscards := up s.link.checkDiscards }, raised := [] }
    let gapDiscard := { s with link := { hunting with gapDiscards := up s.link.gapDiscards }, raised := [] }
    (s.link.receiver = .hunting → b = 0xA5#8 → exec (.byteReceived b) s
      = .next { s with link := { s.link with receiver := .receiving [b], gap := some 10 }, raised := [] })
    ∧ (s.link.receiver = .hunting → b ≠ 0xA5#8 → exec (.byteReceived b) s = .next { s with raised := [] })
    ∧ (∀ got, s.link.receiver = .receiving got → got.length = 1 → 2 ≤ b.toNat → b.toNat ≤ 242 →
        exec (.byteReceived b) s
          = .next { s with link := { s.link with receiver := .receiving (got ++ [b]), gap := some 10 }, raised := [] })
    ∧ (∀ got, s.link.receiver = .receiving got → 2 ≤ got.length → got.length + 1 < (byteAt got 1).toNat + 4 →
        exec (.byteReceived b) s
          = .next { s with link := { s.link with receiver := .receiving (got ++ [b]), gap := some 10 }, raised := [] })
    ∧ (∀ got, s.link.receiver = .receiving got → got.length = 1 → (b.toNat < 2 ∨ 242 < b.toNat) →
        ∀ i ∈ [Instr.frameLengthDiscard b, .byteReceived b], exec i s = .next lengthDiscard)
    ∧ (∀ got, s.link.receiver = .receiving got → 2 ≤ got.length → (byteAt got 1).toNat + 4 ≤ got.length + 1 →
        checkFrame (got ++ [b]) = none → ∀ i ∈ [Instr.frameCheckDiscard b, .byteReceived b], exec i s = .next checkDiscard)
    ∧ (∀ got, s.link.receiver = .receiving got → exec .characterFault s = .next checkDiscard)
    ∧ (s.link.receiver = .hunting → exec .characterFault s = .next { s with raised := [] })
    ∧ (s.link.gap.isSome = true → exec .gapTimerExpiry s = .next gapDiscard)

/-- R162, R164, R172: the bytes of a frame the part could send, received from HUNTING one after another, are assembled, and
the last of them is judged a good frame with the sequence, kind and payload it was built from. -/
def Obligations.ReceiverAssemblesFrame : Prop :=
  ∀ (seq kind : Byte) (payload : List Byte), payload.length ≤ 240 →
    ∃ (got : List Byte) (last : Byte), frameOf seq kind payload = got ++ [last] ∧
      (∀ s : State, s.pins.reset = false → s.link.receiver = .hunting →
        ∃ t, got.foldlM (fun (x : State) b => match exec (.byteReceived b) x with
            | .next y => some y
            | .fault _ | .refused _ => none) s = some t
          ∧ t = { s with link := { s.link with receiver := .receiving got, gap := some 10 }, raised := [] }
          ∧ t.link.receiver.classify last
            = (if kind = 0x20#8 then .data ⟨seq, kind, payload⟩
               else if kind = 0x21#8 then .ack ⟨seq, kind, payload⟩ else .request ⟨seq, kind, payload⟩))

/-- R167's steps for a good frame on the request path, in order; and the good frame ends QUIET (R187). -/
def Obligations.RequestFrameAccepted : Prop :=
  ∀ (s : State) (b : Byte) (f : Frame), s.pins.reset = false → s.link.receiver.classify b = .request f →
    let link := { s.link with receiver := .hunting, gap := none }
    let s1 := { s with reports := s.reports.endQuiet, raised := [] }
    (s.link.holds f.seq = true → exec (.requestFrame b) s = .next { s1 with link := link })
    ∧ (∀ r, s.link.holds f.seq = false → s.link.cache.find? (·.seq = f.seq) = some r →
        exec (.requestFrame b) s = .next { s1 with link :=
          if s.link.replies.length < 4 then { link with replies := s.link.replies ++ [⟨r.frame, false⟩] } else link })
    ∧ (s.link.holds f.seq = false → s.link.cache.find? (·.seq = f.seq) = none → 4 ≤ s.link.queue.length →
        exec (.requestFrame b) s = .next { s1 with link :=
          if s.link.replies.length < 4
          then { link with replies := s.link.replies ++ [⟨replyFrame f.seq f.kind .queueFull [], false⟩] } else link })
    ∧ (s.link.holds f.seq = false → s.link.cache.find? (·.seq = f.seq) = none → s.link.queue.length < 4 →
        exec (.requestFrame b) s = .next { s1 with link :=
          { link with queue := s.link.queue ++ [⟨f.seq, f.kind, f.payload⟩] } })

/-- BREAK: the frame under assembly is discarded uncounted, the gap timer stopped and the reply cache emptied; the queue, the
request in service, the reply list, the counts and the rate are kept; and the Report Queue is told (R174, R188). -/
def Claims.BreakStartsAfresh : Prop :=
  ∀ s : State, s.pins.reset = false →
    exec .lineBreak s = .next { s with
      link := { s.link with receiver := .hunting, gap := none, cache := [] }
      reports := s.reports.atBreak
      raised := [] }

/-- R188: the Report Queue at a break, with the entries IN FLIGHT at the head of the queue: an entry with a WAITING entry of
its kind and subject is removed, the older of two of one kind and subject is removed, and any other returns to WAITING in
its place; QUIET is clear and the counter kept. -/
def Claims.BreakReturnsReports : Prop :=
  ∀ (q : ReportQueue) (ws : List Entry), (∀ w ∈ ws, w.inFlight = false) →
    let back := fun e : Entry => { e with inFlight := false, seq := none, resends := 0, timer := none, due := false }
    let rest : Entry → List Entry := fun e => if e.id ∈ ws.map (·.id) then [] else [back e]
    (q.atBreak.quiet = false ∧ q.atBreak.counter = q.counter)
    ∧ (q.entries = ws → q.atBreak.entries = ws)
    ∧ (∀ a, a.inFlight = true → q.entries = a :: ws → q.atBreak.entries = rest a ++ ws)
    ∧ (∀ a b, a.inFlight = true → b.inFlight = true → q.entries = a :: b :: ws →
        q.atBreak.entries = (if a.id = b.id then [] else rest a) ++ rest b ++ ws)

/-- BREAK at the Host Link and at the Report Queue (R174, R188). -/
def Obligations.BreakActsOnLink : Prop := Claims.BreakStartsAfresh ∧ Claims.BreakReturnsReports

/-- START_OF_SENDING: the oldest reply goes first; with no reply waiting the report the Report Queue chooses; and FRAME_SENT:
a reply leaves the list, and a report still IN FLIGHT has its resend timer started (R173, R181). -/
def Obligations.TransmitterSends : Prop :=
  ∀ s : State, s.pins.reset = false →
    (∀ r rest, s.link.tx = .idle → s.link.replies = r :: rest →
      exec .startOfSending s = .next { s with link := { s.link with tx := .reply r.frame }, raised := [] })
    ∧ (∀ n f q, s.link.tx = .idle → s.link.replies = [] → s.reports.start = some (n, f, q) →
      exec .startOfSending s = .next { s with link := { s.link with tx := .report n f }, reports := q, raised := [] })
    ∧ (∀ f r rest, s.link.tx = .reply f → s.link.replies = r :: rest → r.restart = false →
      exec .frameSent s = .next { s with link := { s.link with tx := .idle, replies := rest }, raised := [] })
    ∧ (∀ n f pre e post, s.link.tx = .report n f → s.reports.quiet = false → s.reports.entries = pre ++ e :: post →
      e.inFlight = true → e.seq = some n → e.due = false →
      (∀ x ∈ pre ++ post, ¬ (x.inFlight = true ∧ x.seq = some n)) →
      exec .frameSent s = .next { s with
        link := { s.link with tx := .idle }
        reports := { s.reports with entries := pre ++ { e with timer := some 250 } :: post }
        raised := [] })

/-- R181, R182: which entry a start of sending chooses, under which sequence, and what becomes of the entry and of the
counter. -/
def Obligations.ReportChosenInOrder : Prop :=
  ∀ (q : ReportQueue) (pre : List Entry) (e : Entry) (post : List Entry), q.entries = pre ++ e :: post →
    (q.quiet = true → q.start = none)
    ∧ (∀ n, q.quiet = false → e.inFlight = true → e.due = true → e.seq = some n →
        (∀ x ∈ pre, ¬ (x.inFlight = true ∧ x.due = true)) →
        q.start = some (n, reportFrame e n, { q with entries := pre ++ { e with due := false } :: post }))
    ∧ (q.quiet = false → e.inFlight = false → (∀ x ∈ pre, x.inFlight = true) →
        (∀ x ∈ q.entries, ¬ (x.inFlight = true ∧ x.due = true)) → q.flying.length < 2 →
        ∃ n, q.start = some (n, reportFrame e n,
            { q with entries := pre ++ { e with inFlight := true, seq := some n } :: post, counter := n + 1 })
          ∧ ((∀ x ∈ q.flying, x.seq ≠ some q.counter) → n = q.counter)
          ∧ ((∃ x ∈ q.flying, x.seq = some q.counter) → n = q.counter + 1))
    ∧ ((∀ x ∈ q.entries, ¬ (x.inFlight = true ∧ x.due = true)) → 2 ≤ q.flying.length → q.start = none)

/-- R180: a submission replaces the content of the WAITING entry of its kind and subject in its place, or is appended WAITING
behind every entry; an IN FLIGHT entry never takes it. -/
def Obligations.SubmissionPlaced : Prop :=
  ∀ (r : ReportId) (x : Content) (es : List Entry),
    ((∀ e ∈ es, ¬ (e.id = r ∧ e.inFlight = false)) →
      placeEntry r x es = es ++ [⟨r, x, false, none, 0, none, false⟩])
    ∧ (∀ pre e post, es = pre ++ e :: post → e.id = r → e.inFlight = false →
        (∀ y ∈ pre, ¬ (y.id = r ∧ y.inFlight = false)) → placeEntry r x es = pre ++ { e with content := x } :: post)

/-- RESEND_TIMER_EXPIRY: below the third resend the count rises and the entry is due for a resend with its timer stopped; at
count 3 QUIET is set and every resend timer is stopped (R184, R186). -/
def Claims.ResendTimerExpires : Prop :=
  ∀ (s : State) (n : Byte) (pre : List Entry) (e : Entry) (post : List Entry), s.pins.reset = false →
    s.reports.entries = pre ++ e :: post → e.inFlight = true → e.seq = some n → e.timer.isSome = true →
    (∀ x ∈ pre, ¬ (x.inFlight = true ∧ x.seq = some n)) →
      (e.resends < 3 → exec (.resendTimerExpiry n) s = .next { s with
        reports := { s.reports with
          entries := pre ++ { e with resends := e.resends + 1, due := true, timer := none } :: post }
        raised := [] })
      ∧ (3 ≤ e.resends → exec (.resendTimerExpiry n) s = .next { s with
        reports := { s.reports with
          quiet := true, entries := s.reports.entries.map fun x => { x with timer := none } }
        raised := [] })

/-- REPORT_ACK: the good frame ends QUIET, with every IN FLIGHT entry due at resend count 0, and the IN FLIGHT entry of the
sequence it names is removed; a payload of any other length names none (R185, R187). -/
def Claims.AckRemovesReport : Prop :=
  ∀ (s : State) (b : Byte) (f : Frame), s.pins.reset = false → s.link.receiver.classify b = .ack f →
    let woken := if s.reports.quiet
      then s.reports.entries.map fun e => if e.inFlight then { e with due := true, resends := 0 } else e
      else s.reports.entries
    let s1 := { s with
      link := { s.link with receiver := .hunting, gap := none }
      reports := { s.reports with quiet := false, entries := woken }
      raised := [] }
    (∀ n, f.payload = [n] → exec (.reportAck b) s = .next { s1 with
      reports := { s.reports with
        quiet := false, entries := woken.filter fun e => !(e.inFlight && e.seq = some n) } })
    ∧ (f.payload.length ≠ 1 → exec (.reportAck b) s = .next s1)

/-- Resends, QUIET and acknowledgements of reports (R184, R185, R186, R187). -/
def Obligations.ResendsAndAcks : Prop := Claims.ResendTimerExpires ∧ Claims.AckRemovesReport

/-! ### Requests -/

/-- The handler takes no request while one is in service, after an accepted RESTART, or while 4 or more replies wait; the
command then changes nothing (R170; Log 1). -/
def Claims.BusyHandlerTakesNothing : Prop :=
  ∀ s : State, s.pins.reset = false → (s.link.handler ≠ .idle ∨ 4 ≤ s.link.replies.length) →
    (∀ x ∈ requestRows, exec x.1 s = .next { s with raised := [] }) ∧ exec .unknownKind s = .next { s with raised := [] }

/-- Before READY every request but IDENTIFY, PART STATUS and RESTART is answered NOT YET, whatever its payload; an unknown
kind too, which after READY is answered UNKNOWN KIND with its kind (R150, R170). -/
def Claims.GatedUntilReady : Prop :=
  ∀ (s : State) (r : Request) (rest : List Request), s.MayTake r rest →
    (∀ x ∈ requestRows, x.2 = r.kind → x.2 ∉ [0x01#8, 0x02#8, 0x10#8, 0x0C#8] → s.store.startup ≠ .ready →
      exec x.1 s = .next (s.answered r rest .notYet []))
    ∧ (r.kind = 0x0C#8 → s.store.startup ≠ .ready → ∀ tdone,
      ((r.payload.length ≠ 2 ∨ byteAt r.payload 1 = 0#8) →
        exec (.targetLineHold tdone) s = .next (s.answered r rest .notYet []))
      ∧ ((r.payload.length ≠ 2 ∨ byteAt r.payload 1 = 1#8) →
        exec (.targetLineRelease tdone) s = .next (s.answered r rest .notYet []))
      ∧ ((r.payload.length ≠ 2 ∨ byteAt r.payload 1 = 2#8) →
        exec (.targetLineLeave tdone) s = .next (s.answered r rest .notYet [])))
    ∧ (r.kind.toNat = 0 ∨ 0x10 < r.kind.toNat →
      (s.store.startup ≠ .ready → exec .unknownKind s = .next (s.answered r rest .notYet []))
      ∧ (s.store.startup = .ready → exec .unknownKind s = .next (s.answered r rest .unknownKind [r.kind])))

/-- A payload of any length but its kind's is answered BAD LENGTH, whatever else holds (R191). -/
def Claims.WrongLengthRefused : Prop :=
  ∀ (s : State) (r : Request) (rest : List Request), s.MayTake r rest →
    (s.store.startup = .ready ∨ r.kind ∈ [0x01#8, 0x02#8, 0x10#8]) → r.payload.length ≠ payloadLength r.kind →
      ∀ x ∈ requestRows, x.2 = r.kind → exec x.1 s = .next (s.answered r rest .badLength [])

/-- A target number or an action out of its range in ABORT or TARGET LINE is answered BAD VALUE, by each row that may take
the request (R22, R137; Log 10). -/
def Claims.BadTargetRefused : Prop :=
  ∀ (s : State) (r : Request) (rest : List Request), s.MayTake r rest → s.store.startup = .ready →
    (∀ b, r.kind = 0x0A#8 → r.payload = [b] → 5 < b.toNat → exec .abort s = .next (s.answered r rest .badValue []))
    ∧ (∀ b a tdone, r.kind = 0x0C#8 → r.payload = [b, a] → (5 < b.toNat ∨ 2 < a.toNat) →
      ((a = 0#8 ∨ 2 < a.toNat) → exec (.targetLineHold tdone) s = .next (s.answered r rest .badValue []))
      ∧ ((a = 1#8 ∨ 2 < a.toNat) → exec (.targetLineRelease tdone) s = .next (s.answered r rest .badValue []))
      ∧ ((a = 2#8 ∨ 2 < a.toNat) → exec (.targetLineLeave tdone) s = .next (s.answered r rest .badValue [])))

/-- What every request meets before its own rule (R150, R170, R191, R22, R137). -/
def Obligations.RequestsCheckedInOrder : Prop :=
  Claims.BusyHandlerTakesNothing ∧ Claims.GatedUntilReady ∧ Claims.WrongLengthRefused ∧ Claims.BadTargetRefused

/-- IDENTIFY, PART STATUS, GET SOURCE, GET TARGET, GET SETTINGS and JOB STATUS are answered from the state as it stands and
change nothing else (R175, R176, R31, R2, R110, R27). -/
def Claims.QueriesAnswered : Prop :=
  ∀ (s : State) (r : Request) (rest : List Request), s.MayTake r rest →
    (r.kind = 0x01#8 → r.payload = [] → exec .identify s = .next (s.answered r rest .ok
      [0x61#8, 0x3A#8, 0x16#8, 0x04#8, 0x01#8, startupCode s.store.startup, u8 s.link.rate.val]))
    ∧ (r.kind = 0x02#8 → r.payload = [] → exec .partStatus s = .next (s.answered r rest .ok s.partStatus))
    ∧ (s.store.startup = .ready →
      (∀ p, r.kind = 0x03#8 → r.payload = [positionCode p] → exec .getSource s
        = .next (s.answered r rest .ok (positionCode p :: (s.store.setup.sources.get p).encode)))
      ∧ (∀ b, r.kind = 0x03#8 → r.payload = [b] → 7 < b.toNat → exec .getSource s = .next (s.answered r rest .badValue []))
      ∧ (∀ t, r.kind = 0x05#8 → r.payload = [targetCode t] → exec .getTarget s
        = .next (s.answered r rest .ok (targetCode t :: (s.store.setup.targets.get t).encode)))
      ∧ (∀ b, r.kind = 0x05#8 → r.payload = [b] → 5 < b.toNat → exec .getTarget s = .next (s.answered r rest .badValue []))
      ∧ (r.kind = 0x07#8 → r.payload = [] → exec .getSettings s
        = .next (s.answered r rest .ok s.store.setup.settings.encode))
      ∧ (∀ t j, r.kind = 0x0B#8 → r.payload = [targetCode t] → s.job t = some j → exec .jobStatus s
        = .next (s.answered r rest .ok (jobStatusBytes (s.jobs.get t) j)))
      ∧ (∀ t, r.kind = 0x0B#8 → r.payload = [targetCode t] → s.job t = none → exec .jobStatus s
        = .next (s.answered r rest .noJob []))
      ∧ (∀ b, r.kind = 0x0B#8 → r.payload = [b] → 5 < b.toNat → exec .jobStatus s
        = .next (s.answered r rest .badValue [])))

/-- The PART STATUS record, 31 bytes, by offsets; its first 19 bytes are the PART report (R176, R178, 11.5). -/
def Claims.PartStatusLayout : Prop :=
  ∀ s : State,
    let b := s.partStatus
    b.length = 31 ∧ (Content.part s.partItems).encode = b.take 19
    ∧ bytesAt b 0 4 = [startupCode s.store.startup, setupOriginCode s.store.origin, reasonCode s.store.reason,
        optCode copyCode s.store.current]
    ∧ bytesAt b 4 4 = le 4 ((s.store.generation.map (·.toNat)).getD 0)
    ∧ bytesAt b 8 3 = [markCode s.store.changed, markCode s.store.save.isSome, saveResultCode s.store.lastSave]
    ∧ (∀ x ∈ [(Port.flash0, 11), (.flash1, 13), (.card, 15), (.host, 17)],
        bytesAt b x.2 2 = [portStateCode (s.ports.get x.1).state, u8 (s.outstanding x.1)])
    ∧ (∀ x ∈ [(Chan.a, 19), (.b, 21)],
        bytesAt b x.2 2 = [optCode targetCode (s.channels.get x.1).running, u8 (s.queues.get x.1).length])
    ∧ bytesAt b 23 2 = le 2 s.link.lengthDiscards ∧ bytesAt b 25 2 = le 2 s.link.gapDiscards
    ∧ bytesAt b 27 2 = le 2 s.link.checkDiscards
    ∧ bytesAt b 29 2 = [u8 s.reports.entries.length, markCode s.reports.quiet]

/-- The JOB STATUS data, 45 bytes with 9 more for each candidate and 5 more for each log entry, by offsets (R27, 11.5). -/
def Claims.JobStatusLayout : Prop :=
  ∀ (x : JobSlot) (j : Job), (∀ d, x.descriptor = some d → d.label.length = 10) →
    let b := jobStatusBytes x j
    let c := j.candidates.length
    b.length = 45 + 9 * c + 5 * j.log.length
    ∧ bytesAt b 0 5 = [originCode j.origin, markCode j.relaxed, optCode positionCode j.only, u8 j.passLimit,
        jobStateCode j.state]
    ∧ bytesAt b 5 2 = le 2 j.pass
    ∧ bytesAt b 7 3 = [optCode positionCode j.position, optCode phaseCode j.phase, j.tag]
    ∧ bytesAt b 10 4 = le 4 j.delivered
    ∧ bytesAt b 14 4 = [optCode outcomeCode j.lastOutcome, optCode finalCode j.final, markCode j.abortPending,
        conditionCode x.condition]
    ∧ (x.descriptor = none → bytesAt b 18 25 = List.replicate 25 0#8)
    ∧ (∀ d, x.descriptor = some d →
        bytesAt b 18 3 = [1#8, positionCode d.position, portCode d.port] ∧ bytesAt b 21 4 = le 4 d.version.toNat
        ∧ bytesAt b 25 4 = le 4 d.length ∧ bytesAt b 29 4 = le 4 d.check.toNat ∧ bytesAt b 33 10 = d.label)
    ∧ byteAt b 43 = u8 c
    ∧ (∀ i y, j.candidates[i]? = some y →
        bytesAt b (44 + 9 * i) 9 = positionCode y.position :: (le 4 y.version.toNat ++ le 4 y.length))
    ∧ byteAt b (44 + 9 * c) = u8 j.log.length
    ∧ (∀ i y, j.log[i]? = some y →
        bytesAt b (45 + 9 * c + 5 * i) 5
          = le 2 y.pass ++ [positionCode y.position, phaseCode y.phase, outcomeCode y.outcome])

/-- The payloads of the JOB and WANT reports by offsets, the frames that carry reports, and what a WANT report lists: the
target's wanted blocks in ascending order (R178, R122, 11.5). -/
def Claims.ReportLayouts : Prop :=
  (∀ x : JobItems,
    let b := (Content.job x).encode
    b.length = 18
    ∧ bytesAt b 0 4 = [targetCode x.target, conditionCode x.condition, originCode x.origin, jobStateCode x.state]
    ∧ bytesAt b 4 2 = le 2 x.pass
    ∧ bytesAt b 6 3 = [optCode positionCode x.position, optCode phaseCode x.phase, optCode outcomeCode x.lastOutcome]
    ∧ bytesAt b 9 4 = le 4 x.delivered ∧ byteAt b 13 = optCode finalCode x.final
    ∧ bytesAt b 14 4 = le 4 ((x.version.map (·.toNat)).getD 0))
  ∧ (∀ x : WantItems,
    let b := (Content.want x).encode
    b.length = 3 + 2 * x.blocks.length ∧ bytesAt b 0 3 = [targetCode x.target, x.tag, u8 x.blocks.length]
    ∧ ∀ i n, x.blocks[i]? = some n → bytesAt b (3 + 2 * i) 2 = le 2 n)
  ∧ (∀ (e : Entry) (n : Byte), reportFrame e n = frameOf n (match e.id with
      | .part => 0x40#8
      | .job _ => 0x41#8
      | .want _ => 0x42#8) e.content.encode)
  ∧ ∀ (s : State) (t : Target),
      (s.wantedBlocks t).Pairwise (· ≤ ·)
      ∧ (s.wantedBlocks t).Perm ((s.wanted.filter (·.target = t)).map (·.block))

/-- The records that GET SOURCE, GET TARGET and GET SETTINGS answer and the saved copy shares, by offsets: a source entry of 6
bytes, a target record of 21 and the settings of 13 (R193, 11.4). -/
def Claims.RecordLayouts : Prop :=
  (∀ e : SourceEntry,
    e.encode.length = 6 ∧ bytesAt e.encode 0 2 = [markCode e.enabled, portCode e.port] ∧ bytesAt e.encode 2 4 = le 4 e.base)
  ∧ (∀ r : TargetRecord,
    let b := r.encode
    b.length = 21
    ∧ bytesAt b 0 4 = [markCode r.present, kindCode r.kind, r.imageType, u8 r.cls.val]
    ∧ bytesAt b 4 4 = [searchCode r.mode, r.candidates, u8 r.passLimit, u8 r.backoff]
    ∧ bytesAt b 8 4 = le 4 r.maxPayload ∧ bytesAt b 12 4 = le 4 r.versionFloor.toNat
    ∧ bytesAt b 16 5 = [markCode r.raisePermitted, markCode r.autoStart, markCode r.reload, u8 r.readyTimeout,
        u8 r.doneTimeout])
  ∧ ∀ x : Settings,
    let b := x.encode
    b.length = 13
    ∧ bytesAt b 0 4 = [chanCode (x.classMap 0), chanCode (x.classMap 1), chanCode (x.classMap 2), chanCode (x.classMap 3)]
    ∧ bytesAt b 4 4 = [u8 x.limits.flash0, u8 x.limits.flash1, u8 x.limits.card, u8 x.limits.host]
    ∧ bytesAt b 8 4 = [modeCode x.modes.flash0, modeCode x.modes.flash1, modeCode x.modes.card, modeCode x.modes.host]
    ∧ byteAt b 12 = u8 x.hostTimeout

/-- The codes of the named values that replies and reports carry (R190). -/
def Claims.CodesFollowTable : Prop :=
  [markCode false, markCode true] = [0#8, 1#8] ∧ [Kind.lane, .memory].map kindCode = [1#8, 2#8]
  ∧ [SearchMode.first, .newest].map searchCode = [0#8, 1#8] ∧ [Chan.a, .b].map chanCode = [0#8, 1#8]
  ∧ [ArbMode.aFirst, .bFirst, .alternate].map modeCode = [0#8, 1#8, 2#8]
  ∧ [portCode .flash0, portCode .flash1, portCode .card, portCode .host] = [0#8, 1#8, 2#8, 3#8]
  ∧ (∀ t, targetCode t = u8 (targetNum t)) ∧ (∀ p, positionCode p = u8 (positionNum p))
  ∧ [Origin.start, .host, .faultReload].map originCode = [0#8, 1#8, 2#8]
  ∧ [JobState.queued, .backoff, .probing, .streaming, .finishing, .draining, .delivered, .failed, .aborted].map jobStateCode
      = [0#8, 1#8, 2#8, 3#8, 4#8, 5#8, 6#8, 7#8, 8#8]
  ∧ [Phase.probe, .fetch].map phaseCode = [0#8, 1#8]
  ∧ [AttemptOutcome.noPort, .readError, .hostTimeout, .badMarker, .badHeader, .wrongType, .badLength, .belowFloor, .changed,
      .streamError, .checksum, .readyTimeout, .doneTimeout, .targetFault].map outcomeCode
      = [0#8, 1#8, 2#8, 3#8, 4#8, 5#8, 6#8, 7#8, 8#8, 9#8, 10#8, 11#8, 12#8, 13#8]
  ∧ [FinalOutcome.delivered, .noImage, .noSources, .aborted].map finalCode = [0#8, 1#8, 2#8, 3#8]
  ∧ [Condition.none, .loaded, .faulted].map conditionCode = [0#8, 1#8, 2#8]
  ∧ [LineState.asserted, .releasing, .released].map lineCode = [0#8, 1#8, 2#8]
  ∧ [PortState.absent, .probing, .ready, .writing, .empty, .waking, .faulted].map portStateCode
      = [0#8, 1#8, 2#8, 3#8, 4#8, 5#8, 6#8]
  ∧ [Startup.probingPorts, .loadingSetup, .ready].map startupCode = [0#8, 1#8, 2#8]
  ∧ [SetupOrigin.copyA, .copyB, .defaults].map setupOriginCode = [0#8, 1#8, 2#8]
  ∧ [OriginReason.none, .otherCopyInvalid, .noValidCopy, .noFlash].map reasonCode = [0#8, 1#8, 2#8, 3#8]
  ∧ [Copy.a, .b].map copyCode = [0#8, 1#8] ∧ [SaveResult.none, .ok, .saveFailed].map saveResultCode = [0#8, 1#8, 2#8]
  ∧ ∀ (α : Type) (f : α → Byte), optCode f none = 0xFF#8 ∧ ∀ x, optCode f (some x) = f x

/-- What the queries answer, and the bytes of the records, of the status records and of the reports (R175, R176, R31, R2, R110,
R27, R178, R122, R190, R193). -/
def Obligations.QueriesAreAnswered : Prop :=
  Claims.QueriesAnswered ∧ Claims.RecordLayouts ∧ Claims.PartStatusLayout ∧ Claims.JobStatusLayout ∧ Claims.ReportLayouts ∧ Claims.CodesFollowTable

/-- SET SOURCE, SET TARGET and SET SETTINGS: accepted, they replace what they name and nothing else; refused, BAD VALUE or
IN USE, they change nothing (R32, R33, R3, R4, R111, R16). -/
def Obligations.SetupIsEdited : Prop :=
  ∀ (s : State) (r : Request) (rest : List Request), s.MayTake r rest → s.store.startup = .ready →
    (r.kind = 0x04#8 → r.payload.length = 7 →
      (∀ p e, parseSetSource r.payload = some (p, e) →
          let new := { s.store.setup with sources := s.store.setup.sources.set p e }
          exec .setSource s = .next (({ s with store := editedStore s.store new } : State).answered r rest .ok []))
      ∧ (parseSetSource r.payload = none → exec .setSource s = .next (s.answered r rest .badValue [])))
    ∧ (r.kind = 0x06#8 → r.payload.length = 22 →
      (∀ t x, parseSetTarget r.payload = some (t, x) → s.busy t = false →
          let new := { s.store.setup with targets := s.store.setup.targets.set t x }
          exec .setTarget s = .next (({ s with store := editedStore s.store new } : State).answered r rest .ok []))
      ∧ (∀ t x, parseSetTarget r.payload = some (t, x) → s.busy t = true → exec .setTarget s
        = .next (s.answered r rest .inUse []))
      ∧ (parseSetTarget r.payload = none → exec .setTarget s = .next (s.answered r rest .badValue [])))
    ∧ (r.kind = 0x08#8 → r.payload.length = 13 →
      (∀ x, Settings.parse r.payload = some x →
          (∀ t, s.busy t = true → x.classMap (s.record t).cls = s.settings.classMap (s.record t).cls) →
          let new := { s.store.setup with settings := x }
          exec .setSettings s = .next (({ s with store := editedStore s.store new } : State).answered r rest .ok []))
      ∧ (∀ x t, Settings.parse r.payload = some x → s.busy t = true →
          x.classMap (s.record t).cls ≠ s.settings.classMap (s.record t).cls →
          exec .setSettings s = .next (s.answered r rest .inUse []))
      ∧ (Settings.parse r.payload = none → exec .setSettings s = .next (s.answered r rest .badValue [])))

/-- LOAD: refused BAD VALUE or IN USE with no effect, or it creates a job of origin HOST in the queue of its class's channel,
or FAILED with NO SOURCES; the line is asserted and a LOADED condition becomes NONE (R18, R19, R9, R10, R8, R5). -/
def Obligations.LoadCreatesJob : Prop :=
  ∀ (s : State) (r : Request) (rest : List Request), s.MayTake r rest → s.store.startup = .ready → r.kind = 0x09#8 →
    r.payload.length = 3 →
      (parseLoad r.payload = none → exec .load s = .next (s.answered r rest .badValue []))
      ∧ (∀ x, parseLoad r.payload = some x → (s.record x.target).present = false →
          exec .load s = .next (s.answered r rest .badValue []))
      ∧ (∀ x, parseLoad r.payload = some x → (s.record x.target).present = true → s.busy x.target = true →
          exec .load s = .next (s.answered r rest .inUse []))
      ∧ (∀ t relaxed only, parseLoad r.payload = some ⟨t, relaxed, only⟩ → (s.record t).present = true →
          s.busy t = false →
          let tag := match s.job t with
            | some j => j.tag
            | none => 0#8
          let set := allPositions.filter fun p => (match only with
            | some q => decide (q = p)
            | none => (s.record t).candidates.getLsbD (positionNum p)) && (s.source p).enabled
          let failed := set.isEmpty
          let j : Job := {
            origin := .host, relaxed := relaxed, only := only
            passLimit := if only.isSome then 1 else (s.record t).passLimit
            state := if failed then .failed else .queued
            pass := 1, position := none, phase := none, tag := tag, delivered := 0, lastOutcome := none
            final := if failed then some .noSources else none
            abortPending := false, candidates := [], log := [], effective := set, entry := none }
          let c := s.settings.classMap (s.record t).cls
          exec .load s = .next (({ s with
            jobs := s.jobs.set t
              { s.jobs.get t with
                condition := if (s.jobs.get t).condition = Condition.loaded then .none else (s.jobs.get t).condition
                job := some j }
            queues := if failed then s.queues
              else s.queues.set c (insertByClass (fun u => (s.record u).cls) t (s.queues.get c))
            lines := s.lines.set t (s.lines.get t).assert }.answered r rest .ok
              [if failed then 7#8 else 0#8, if failed then 2#8 else 0xFF#8, tag]).withJobReport t j))

/-- ABORT by the state of the target's job: NO JOB; ABORTED from its queue or from BACKOFF; DRAINING with abort pending (R22,
R24). -/
def Claims.AbortByJobState : Prop :=
  ∀ (s : State) (r : Request) (rest : List Request) (t : Target), s.MayTake r rest → s.store.startup = .ready →
    r.kind = 0x0A#8 → r.payload = [targetCode t] →
      (s.job t = none → exec .abort s = .next (s.answered r rest .noJob []))
      ∧ (∀ j, s.job t = some j → j.state.isFinal = true → exec .abort s = .next (s.answered r rest .noJob []))
      ∧ (∀ j, s.job t = some j → (j.state = .queued ∨ j.state = .backoff) →
          let j1 := { j with state := .aborted, final := some .aborted, abortPending := false }
          exec .abort s = .next (({ s with
            queues := ⟨s.queues.a.filter (· ≠ t), s.queues.b.filter (· ≠ t)⟩
            jobs := s.jobs.set t { s.jobs.get t with backoff := none, job := some j1 } }.answered r rest .ok
              [8#8]).withJobReport t j1))
      ∧ (∀ j, s.job t = some j → j.state = .draining → exec .abort s
          = .next ((s.withJob t { j with abortPending := true }).answered r rest .ok [5#8]))

/-- ABORT of a running attempt: the line is asserted, held blocks are discarded, the lane is stopped; with device reads in
flight the job is DRAINING with abort pending, with none it is ABORTED and leaves its channel; its log, tag and candidates
are kept (R23, R87, R52). That a DRAINING job's channel keeps its running check and stream parameters is the model's choice
(Log 19). -/
def Claims.AbortStopsAttempt : Prop :=
  ∀ (s : State) (r : Request) (rest : List Request) (t : Target) (c : Chan) (j : Job) (e : SourceEntry), s.MayTake r rest →
    s.store.startup = .ready → r.kind = 0x0A#8 → r.payload = [targetCode t] → s.job t = some j →
    (j.state = .probing ∨ j.state = .streaming ∨ j.state = .finishing) → s.channelOf t = some c → j.entry = some e →
    e.port ≠ .host → s.wanted.any (·.target = t) = false →
      let x := { s.channels.get c with
        claim := none, slots := (s.channels.get c).slots.map fun y => if y.isInFlight then y else .free }
      let line := { (s.lines.get t).assert with lane := .idle, block := none, ready := none, done := none }
      let draining := { j with state := .draining, abortPending := true }
      let aborted := { j with state := .aborted, final := some .aborted, abortPending := false }
      ((s.channels.get c).slots.any (·.isInFlight) = true → exec .abort s = .next (((({ s with
          channels := s.channels.set c x, lines := s.lines.set t line } : State).withJob t draining).answered r rest .ok
            [5#8]).withJobReport t draining))
      ∧ ((s.channels.get c).slots.any (·.isInFlight) = false → exec .abort s = .next (((({ s with
          channels := s.channels.set c x.left, lines := s.lines.set t line } : State).withJob t aborted).answered r rest .ok
            [8#8]).withJobReport t aborted))

/-- ABORT of a running attempt that reads from HOST: its wanted entries are removed and every slot is freed, so the job is
ABORTED at once; a WANT report without blocks is queued, before the JOB report (Log 8), if an entry was removed (R23, R87,
R120). -/
def Claims.AbortCancelsHost : Prop :=
  ∀ (s : State) (r : Request) (rest : List Request) (t : Target) (c : Chan) (j : Job) (e : SourceEntry), s.MayTake r rest →
    s.store.startup = .ready → r.kind = 0x0A#8 → r.payload = [targetCode t] → s.job t = some j →
    (j.state = .probing ∨ j.state = .streaming) → s.channelOf t = some c → j.entry = some e → e.port = .host →
      let x := { (s.channels.get c).left with claim := none, slots := (s.channels.get c).slots.map fun _ => .free }
      let line := { (s.lines.get t).assert with lane := .idle, block := none, ready := none, done := none }
      let aborted := { j with state := .aborted, final := some .aborted, abortPending := false }
      let u := (({ s with
        channels := s.channels.set c x, lines := s.lines.set t line
        wanted := s.wanted.filter fun w => !decide (w.target = t) } : State).withJob t aborted).answered r rest .ok [8#8]
      (s.wanted.any (·.target = t) = true →
        exec .abort s = .next ((u.withWantReport t j.tag).withJobReport t aborted))
      ∧ (s.wanted.any (·.target = t) = false → exec .abort s = .next (u.withJobReport t aborted))

/-- ABORT in every state of the job (R22, R23, R24, R120). -/
def Obligations.AbortEndsJob : Prop := Claims.AbortByJobState ∧ Claims.AbortStopsAttempt ∧ Claims.AbortCancelsHost

/-- TARGET LINE with HOLD, RELEASE and LEAVE on a target with no non-final job, with the reply as things stand after the
action; and IN USE where a job is non-final (R137, R138, R139). -/
def Obligations.TargetLineActs : Prop :=
  ∀ (s : State) (r : Request) (rest : List Request) (t : Target) (tdone : Bool) (a : Byte), s.MayTake r rest →
    s.store.startup = .ready → r.kind = 0x0C#8 → r.payload = [targetCode t, a] →
      let pins := { s.pins with tdone := s.pins.tdone.set t tdone }
      let reply := fun (line : TargetPort) (x : Condition) =>
        [lineCode line.line, markCode (s.pins.trdy.get t), markCode tdone, markCode (s.pins.tflt.get t), conditionCode x]
      let held := (s.lines.get t).assert
      let released := (s.lines.get t).release (s.pins.tflt.get t) (s.pins.trdy.get t) (s.record t)
      (s.busy t = true → (a = 0#8 → exec (.targetLineHold tdone) s = .next (s.answered r rest .inUse []))
        ∧ (a = 1#8 → exec (.targetLineRelease tdone) s = .next (s.answered r rest .inUse []))
        ∧ (a = 2#8 → exec (.targetLineLeave tdone) s = .next (s.answered r rest .inUse [])))
      ∧ (s.busy t = false → a = 0#8 → (s.jobs.get t).condition = .none → exec (.targetLineHold tdone) s
        = .next ({ s with pins := pins, lines := s.lines.set t held }.answered r rest .ok (reply held .none)))
      ∧ (∀ j, s.busy t = false → a = 0#8 → (s.jobs.get t).condition ≠ .none → s.job t = some j →
        exec (.targetLineHold tdone) s = .next (({ s with
          pins := pins
          lines := s.lines.set t held
          jobs := s.jobs.set t { s.jobs.get t with condition := .none } }.answered r rest .ok
            (reply held .none)).withJobReport t j))
      ∧ (s.busy t = false → a = 1#8 → exec (.targetLineRelease tdone) s
        = .next ({ s with pins := pins, lines := s.lines.set t released }.answered r rest .ok
            (reply released (s.jobs.get t).condition)))
      ∧ (s.busy t = false → a = 2#8 → exec (.targetLineLeave tdone) s
        = .next ({ s with pins := pins }.answered r rest .ok (reply (s.lines.get t) (s.jobs.get t).condition)))

/-- PEEK places its claim and stays in service while its port can read or may come to, and is answered NO PORT at once where
it cannot; an address or port out of range is BAD VALUE (R106, R107, R98). -/
def Claims.PeekPlacesClaim : Prop :=
  ∀ (s : State) (r : Request) (rest : List Request), s.MayTake r rest → s.store.startup = .ready → r.kind = 0x0D#8 →
    r.payload.length = 5 →
      (∀ p a, parsePeek r.payload = some (p, a) → s.refuses p = false → exec .peek s
        = .next { s with link := { s.link with queue := rest, handler := .serving r (.peek p a) }, raised := [] })
      ∧ (∀ p a, parsePeek r.payload = some (p, a) → s.refuses p = true → exec .peek s
        = .next (s.answered r rest .noPort []))
      ∧ (parsePeek r.payload = none → exec .peek s = .next (s.answered r rest .badValue []))

/-- RESCAN by its port's state: a probe or a wake starts and the request stays in service, or it is answered IN USE, NO PORT,
BUSY or BAD VALUE with no effect (R108, R109). That the capacity of a flash port stands while its probe runs is the model's
choice (Log 22). -/
def Claims.RescanByPortState : Prop :=
  ∀ (s : State) (r : Request) (rest : List Request), s.MayTake r rest → s.store.startup = .ready → r.kind = 0x0E#8 →
    (∀ p : Port, p = .flash0 ∨ p = .flash1 → r.payload = [portCode p] →
      (s.portInUse p = true → exec .rescan s = .next (s.answered r rest .inUse []))
      ∧ (s.portInUse p = false → ((s.ports.get p).state = .ready ∨ (s.ports.get p).state = .absent) → exec .rescan s
        = .next ({ s with
            link := { s.link with queue := rest, handler := .serving r (.rescan p) }
            ports := s.ports.set p { s.ports.get p with state := .probing }
            raised := [] }).withPartReport))
    ∧ (r.payload = [2#8] →
      (s.ports.card.state = .empty → exec .rescan s = .next (s.answered r rest .noPort []))
      ∧ (s.ports.card.state = .waking → exec .rescan s = .next (s.answered r rest .busy []))
      ∧ (s.ports.card.state = .ready → s.portInUse .card = true → exec .rescan s = .next (s.answered r rest .inUse []))
      ∧ ((s.ports.card.state = .ready ∨ s.ports.card.state = .faulted) → s.portInUse .card = false → exec .rescan s
        = .next ({ s with
            link := { s.link with queue := rest, handler := .serving r (.rescan .card) }
            ports := { s.ports with card := { s.ports.card with state := .waking, capacity := 0 } }
            raised := [] }).withPartReport))
    ∧ (∀ b, r.payload = [b] → 2 < b.toNat → exec .rescan s = .next (s.answered r rest .badValue []))

/-- PEEK and RESCAN at the take (R106 to R109). -/
def Obligations.PortRequests : Prop := Claims.PeekPlacesClaim ∧ Claims.RescanByPortState

/-- SAVE SETUP: refused BAD VALUE or NO PORT, or the save starts: snapshot, the copy that is not the current one, the next
generation, and the writer's claim, with the erase begun at once where no read is outstanding, or SAVE FAILED at once where
the copy cannot fit; and RESTART: OK, and the handler stops (R151, R152, R153, R103, R156). -/
def Obligations.SaveAndRestartTaken : Prop :=
  ∀ (s : State) (r : Request) (rest : List Request), s.MayTake r rest → r.payload = [] →
    let save : Save :=
      { snapshot := s.store.setup
        target := if s.store.current = some .a then .b else .a
        generation := match s.store.generation with
          | some g => g + 1
          | none => 1#32
        edited := false
        stage := .waiting }
    (r.kind = 0x0F#8 → s.store.startup = .ready →
      (s.store.generation = some 0xFFFFFFFF#32 → exec .saveSetup s = .next (s.answered r rest .badValue []))
      ∧ (s.store.generation ≠ some 0xFFFFFFFF#32 → s.ports.flash0.state = .absent →
          exec .saveSetup s = .next (s.answered r rest .noPort []))
      ∧ (s.store.generation ≠ some 0xFFFFFFFF#32 → s.ports.flash0.state = .ready → s.ports.flash0.reads ≠ [] →
          exec .saveSetup s = .next { s with
            link := { s.link with queue := rest, handler := .serving r .save }
            store := { s.store with save := some save }
            raised := [] })
      ∧ (s.store.generation ≠ some 0xFFFFFFFF#32 → s.ports.flash0.state = .ready → s.ports.flash0.reads = [] →
          64 ≤ s.ports.flash0.capacity → exec .saveSetup s = .next ({ s with
            link := { s.link with queue := rest, handler := .serving r .save }
            store := { s.store with save := some { save with stage := .erasing } }
            ports := { s.ports with flash0 := { s.ports.flash0 with state := .writing } }
            raised := [] }).withPartReport)
      ∧ (s.store.generation ≠ some 0xFFFFFFFF#32 → s.ports.flash0.state = .ready → s.ports.flash0.reads = [] →
          s.ports.flash0.capacity < 32 → exec .saveSetup s
            = .next (({ s with store := { s.store with save := none, lastSave := .saveFailed } }.answered r rest
                .saveFailed []).withPartReport)))
    ∧ (r.kind = 0x10#8 → exec .restart s = .next { s with
        link :=
          { s.link with
            queue := rest, handler := .stopped
            cache := (s.link.cache ++ [(⟨r.seq, replyFrame r.seq r.kind .ok []⟩ : CachedReply)]).drop
              (s.link.cache.length + 1 - 4)
            replies := s.link.replies ++ [⟨replyFrame r.seq r.kind .ok [], true⟩] }
        raised := [] })

/-! ### Saves -/

/-- SAVE_ERASE_DONE and SAVE_WRITE_DONE start the next access; SAVE_VERIFY_READ_DONE with the block written goes on to the
second block, and at the second ends the save with success: the target copy is current under the new generation, and the
flag is cleared unless the mark is set (R153, R154). -/
def Obligations.SaveGoesOn : Prop :=
  ∀ (s : State) (v : Save) (r : Request), s.pins.reset = false → s.store.save = some v →
    s.link.handler = .serving r .save →
      let at_ := fun g => { s with store := { s.store with save := some { v with stage := g } }, raised := [] }
      (v.stage = .erasing → exec .saveEraseDone s = .next (at_ (.writing false)))
      ∧ (v.stage = .writing false → exec .saveWriteDone s = .next (at_ (.writing true)))
      ∧ (v.stage = .writing true → exec .saveWriteDone s = .next (at_ (.verifying false)))
      ∧ (v.stage = .verifying false → exec (.saveVerifyReadDone ((buildCopy v.generation v.snapshot).take 128)) s
        = .next (at_ (.verifying true)))
      ∧ (v.stage = .verifying true → exec (.saveVerifyReadDone ((buildCopy v.generation v.snapshot).drop 128)) s
        = .next (saveEnded s r
            { s.store with
              current := some v.target, generation := some v.generation
              changed := if v.edited then s.store.changed else false
              save := none, lastSave := .ok }
            .ok (copyCode v.target :: le 4 v.generation.toNat)))

/-- Each failure of the access under way, and a verify read that differs, ends the save with SAVE FAILED and leaves the
current copy, the generation and the flag as they were (R153, R154). -/
def Obligations.SaveFails : Prop :=
  ∀ (s : State) (v : Save) (r : Request) (second : Bool) (data : List Byte), s.pins.reset = false →
    s.store.save = some v → s.link.handler = .serving r .save →
      let failed := saveEnded s r { s.store with save := none, lastSave := .saveFailed } .saveFailed []
      (v.stage = .erasing → exec .saveEraseError s = .next failed ∧ exec .saveEraseTimeout s = .next failed)
      ∧ (v.stage = .writing second → exec .saveWriteError s = .next failed ∧ exec .saveWriteTimeout s = .next failed)
      ∧ (v.stage = .verifying second → exec .saveVerifyReadError s = .next failed
          ∧ exec .saveVerifyTimeout s = .next failed
          ∧ (data.length = 128 →
              data ≠ ((buildCopy v.generation v.snapshot).drop (if second then 128 else 0)).take 128 →
              exec (.saveVerifyReadDone data) s = .next failed))

/-- FLASH0 becomes WRITING, and the erase starts, in the completion of the last read outstanding when the writer claims it,
and not before (R103, R152). The completions here are those of a STREAMING job, whose block becomes HELD behind another block
on the lane, and of a DRAINING job, whose last completion with abort pending makes it ABORTED; a read of `more` is
outstanding after each. -/
def Obligations.WriterWaitsForReads : Prop :=
  ∀ (s : State) (v : Save) (a k : Nat) (c : Chan) (t : Target) (j : Job) (more : List Read) (data : List Byte),
    s.pins.reset = false → s.store.save = some v → v.stage = .waiting → s.ports.flash0.state = .ready →
    s.ports.flash0.reads = ⟨.chan c k, a⟩ :: more → 64 ≤ s.ports.flash0.capacity → data.length = 128 →
    (s.channels.get c).running = some t → s.job t = some j →
      let free := setSlot k .free (s.channels.get c).slots
      let held := setSlot k (.held k data) (s.channels.get c).slots
      let s1 : State := { s with
        ports := { s.ports with flash0 := { s.ports.flash0 with reads := more } }
        raised := [] }
      let taken := fun x : State => { x with
        ports := { x.ports with flash0 := { x.ports.flash0 with state := .writing } }
        store := { s.store with save := some { v with stage := .erasing } } }
      (∀ (e : SourceEntry) (x : StreamParams), j.state = .streaming → j.entry = some e → e.port ≠ .host →
        (s.channels.get c).params = some x → k ≠ 0 → held.any (·.isDelivering) = true →
          let s2 := { s1 with channels := s.channels.set c { s.channels.get c with slots := held } }
          (more ≠ [] → exec (.readComplete .flash0 0 data) s = .next s2)
          ∧ (more = [] → exec (.readComplete .flash0 0 data) s = .next (taken s2).withPartReport))
      ∧ (j.state = .draining → free.any (·.isInFlight) = true → more ≠ [] →
        exec (.readComplete .flash0 0 data) s
          = .next { s1 with channels := s.channels.set c { s.channels.get c with slots := free } })
      ∧ (j.state = .draining → j.abortPending = true → free.any (·.isInFlight) = false →
        let aborted := { j with state := .aborted, final := some .aborted, abortPending := false }
        let s2 := ({ s1 with
          channels := s.channels.set c ({ s.channels.get c with slots := free } : Channel).left } : State).withJob t aborted
        (more ≠ [] → exec (.readComplete .flash0 0 data) s = .next (s2.withJobReport t aborted))
        ∧ (more = [] → exec (.readComplete .flash0 0 data) s
            = .next ((taken s2).withPartReport.withJobReport t aborted)))

/-! ### Images, frames and copies -/

/-- R60: a block 0 of fewer than 32 bytes is BAD HEADER, and a longer one is judged on bytes 0 to 31 alone; a flash or card
read returns 128 bytes, as the model's operand check says (Log 20), and a DATA frame carries whatever length it has, 1 to 128
bytes. -/
def Obligations.HeaderBytesAlone : Prop :=
  (∀ (bs : List Byte) (r : TargetRecord) (relaxed : Bool),
    (bs.length < 32 → judge bs r relaxed = some .badHeader)
    ∧ (32 ≤ bs.length → judge bs r relaxed = judge (bs.take 32) r relaxed))
  ∧ (∀ (p : Port) (n : Nat) (data : List Byte), (Instr.readComplete p n data).wf = true → p ≠ .host ∧ data.length = 128)
  ∧ (∀ (payload : List Byte) (d : DataFields), parseData payload = some d →
      d.data = payload.drop 4 ∧ 1 ≤ d.data.length ∧ d.data.length ≤ 128)
  ∧ (∀ (t : Target) (tag lo hi : Byte) (data : List Byte), 1 ≤ data.length → data.length ≤ 128 →
      parseData (targetCode t :: tag :: lo :: hi :: data) = some ⟨t, tag, lo.toNat + 256 * hi.toNat, data⟩)

/-- R59: the seven steps in order; the first that fails gives the outcome, and a header that passes every applied step is
accepted. -/
def Obligations.HeaderStepsInOrder : Prop :=
  ∀ (bs : List Byte) (r : TargetRecord) (relaxed : Bool), 32 ≤ bs.length →
    let ok1 := bs.take 4 = [0x9E#8, 0x4D#8, 0x1A#8, 0xC7#8]
    let ok2 := (crc16 (bs.take 30)).toNat = (bs.getD 30 0#8).toNat + 256 * (bs.getD 31 0#8).toNat
    let ok3 := bs.getD 4 0#8 = 1#8 ∧ ∀ i, 1 ≤ i → i < 8 → (bs.getD 7 0#8).getLsbD i = false
    let ok4 := bs.getD 5 0#8 = (match r.kind with
      | .lane => 1#8
      | .memory => 2#8)
    let ok5 := relaxed = true ∨ bs.getD 6 0#8 = r.imageType
    let ok6 := 1 ≤ hdrLength bs ∧ hdrLength bs ≤ r.maxPayload
    let ok7 := relaxed = true ∨ r.versionFloor ≤ hdrVersion bs
    (¬ ok1 → judge bs r relaxed = some .badMarker)
    ∧ (ok1 → ¬ ok2 → judge bs r relaxed = some .badHeader)
    ∧ (ok1 → ok2 → ¬ ok3 → judge bs r relaxed = some .badHeader)
    ∧ (ok1 → ok2 → ok3 → ¬ ok4 → judge bs r relaxed = some .wrongType)
    ∧ (ok1 → ok2 → ok3 → ok4 → ¬ ok5 → judge bs r relaxed = some .wrongType)
    ∧ (ok1 → ok2 → ok3 → ok4 → ok5 → ¬ ok6 → judge bs r relaxed = some .badLength)
    ∧ (ok1 → ok2 → ok3 → ok4 → ok5 → ok6 → ¬ ok7 → judge bs r relaxed = some .belowFloor)
    ∧ (ok1 → ok2 → ok3 → ok4 → ok5 → ok6 → ok7 → judge bs r relaxed = none)

/-- R61: for a header that passes steps 1 to 3, what step 4 makes of the kind and step 5 of the image type, relaxed or not; and
step 6 by the payload length, with the block counts of an accepted header, as the first part of R62 has them. -/
def Obligations.KindTypeAndLengthSteps : Prop :=
  ∀ (bs : List Byte) (r : TargetRecord) (relaxed : Bool), r.inRange = true → 32 ≤ bs.length →
    bs.take 4 = [0x9E#8, 0x4D#8, 0x1A#8, 0xC7#8] →
    (crc16 (bs.take 30)).toNat = (bs.getD 30 0#8).toNat + 256 * (bs.getD 31 0#8).toNat →
    bs.getD 4 0#8 = 1#8 → (∀ i, 1 ≤ i → i < 8 → (bs.getD 7 0#8).getLsbD i = false) →
      let kind := bs.getD 5 0#8
      let type := bs.getD 6 0#8
      let length := hdrLength bs
      let kindPasses := (r.kind = .lane ∧ kind = 1#8) ∨ (r.kind = .memory ∧ kind = 2#8)
      (r.kind = .lane → kind ≠ 1#8 → judge bs r relaxed = some .wrongType)
      ∧ (r.kind = .memory → kind ≠ 2#8 → judge bs r relaxed = some .wrongType)
      ∧ (kind.toNat = 0 ∨ 3 ≤ kind.toNat → judge bs r relaxed = some .wrongType)
      ∧ (kindPasses → relaxed = false → type ≠ r.imageType → judge bs r relaxed = some .wrongType)
      ∧ (kindPasses → relaxed = false → type = 0#8 ∨ type = 255#8 → judge bs r relaxed = some .wrongType)
      ∧ (kindPasses → relaxed = true ∨ type = r.imageType →
          (length = 0 ∨ r.maxPayload < length ∨ 8388576 < length → judge bs r relaxed = some .badLength)
          ∧ (1 ≤ length → length ≤ r.maxPayload →
              judge bs r relaxed
                = if relaxed = false ∧ hdrVersion bs < r.versionFloor then some .belowFloor else none))
      ∧ (judge bs r relaxed = none → 1 ≤ length ∧ length ≤ r.maxPayload ∧ blockCount length ≤ 65536
          ∧ blockCount length ≤ blockCount r.maxPayload)

/-- A frame the part builds is a good frame to the receiver's check, with the fields it was built from: decoding undoes
encoding (R164, R172). -/
def Obligations.FrameRoundTrip : Prop :=
  ∀ (seq kind : Byte) (payload : List Byte), payload.length ≤ 240 →
    (frameOf seq kind payload).length = payload.length + 6 ∧ checkFrame (frameOf seq kind payload) = some ⟨seq, kind, payload⟩

/-- A copy the part writes of a setup in range is 256 bytes, valid, carries its generation, and loads back as the setup with
no replacement (R142, R143, R148, R153, R193). -/
def Obligations.SavedCopyRoundTrip : Prop :=
  ∀ (g : Word32) (x : Setup), x.InRange →
    (buildCopy g x).length = 256 ∧ copyValid (buildCopy g x) = true ∧ copyGeneration (buildCopy g x) = g
      ∧ loadSetup (buildCopy g x) = x ∧ loadReplaces (buildCopy g x) = false

/-! ### Invariants -/

/-- Every invariant below holds of the machine after reset. -/
def Obligations.InvariantsHoldAtReset : Prop :=
  State.reset.HeldOk ∧ State.reset.SetupOk ∧ State.reset.PortsOk ∧ State.reset.LinkOk ∧ State.reset.SequencesOk
    ∧ State.reset.reports.Ok ∧ State.reset.JobsOk ∧ State.reset.LinesOk

/-- R145: under a held reset input every block stays at its value after power-on reset. That the rate code is 0 then is the
model's choice (Log 7). -/
def Obligations.HeldResetKept : Prop :=
  ∀ s t : State, s.HeldOk → step s = .next t → t.HeldOk

/-- R1, R29, R30, R110, R111: no command takes a value of the live setup, or of a save's snapshot, out of its range. -/
def Obligations.SetupRangesKept : Prop :=
  ∀ s t : State, s.SetupOk → step s = .next t → t.SetupOk

/-- R99, R103: a port never has more than 3 reads outstanding, and a port that is not READY has none. -/
def Obligations.PortCreditsKept : Prop :=
  ∀ s t : State, s.HeldOk → s.SetupOk → s.PortsOk → step s = .next t → t.PortsOk

/-- R168, R169, R171, R165: the bounds of the request queue, the reply cache, the reply list and the discard counts. -/
def Claims.LinkBoundsKept : Prop :=
  ∀ s t : State, s.LinkOk → step s = .next t → t.LinkOk

/-- R168, R169: a sequence number names at most one of the requests held and the replies cached. -/
def Claims.SequencesStayDistinct : Prop :=
  ∀ s t : State, s.SequencesOk → step s = .next t → t.SequencesOk

/-- The bounds and the sequence numbers of the Host Link. -/
def Obligations.LinkKept : Prop := Claims.LinkBoundsKept ∧ Claims.SequencesStayDistinct

/-- R180, R182: the Report Queue holds at most 15 entries, at most 2 IN FLIGHT under different sequences, and never two
WAITING of one kind and subject. -/
def Obligations.ReportQueueKept : Prop :=
  ∀ s t : State, s.reports.Ok → step s = .next t → t.reports.Ok

/-- R11, R7, R48: a job stands exactly where its state says, has a final outcome exactly when it is final, and its log never
passes 16 entries. -/
def Obligations.JobPlacesKept : Prop :=
  ∀ s t : State, s.HeldOk → s.JobsOk → step s = .next t → t.JobsOk

/-- R127: no command releases the line of a target whose job must hold it. -/
def Obligations.HeldLinesKept : Prop :=
  ∀ s t : State, s.HeldOk → s.JobsOk → s.LinesOk → step s = .next t → t.LinesOk
end

