-- ==== Sys2Proof/Laws/Codes.lean ====
section
/-! SUPPORT. Codes and little-endian numbers read back as they were written (R190). -/

namespace Sys2Proof.Machine

@[simp] theorem le_length (k n : Nat) : (le k n).length = k := by
  induction k generalizing n with
  | zero => rfl
  | succ k ih => simp [le, ih]

/-- Reading `k` little-endian bytes gives the number written, modulo what `k` bytes hold. -/
theorem ofLE_le (k n : Nat) : ofLE (le k n) = n % 256 ^ k := by
  induction k generalizing n with
  | zero => simp [le, ofLE, Nat.mod_one]
  | succ k ih =>
    have h : 256 ^ (k + 1) = 256 * 256 ^ k := by rw [Nat.pow_succ, Nat.mul_comm]
    simp only [le, ofLE, ih, u8, BitVec.toNat_ofNat]
    rw [h, Nat.mod_mul]

/-- A number that fits reads back as itself. -/
theorem ofLE_le_of_lt {k n : Nat} (h : n < 256 ^ k) : ofLE (le k n) = n := by rw [ofLE_le, Nat.mod_eq_of_lt h]

@[simp] theorem targetOf_targetCode (t : Target) : targetOf (targetCode t) = some t := by cases t <;> rfl
@[simp] theorem positionOf_positionCode (p : Position) : positionOf (positionCode p) = some p := by cases p <;> rfl
@[simp] theorem portOf_portCode (p : Port) : portOf (portCode p) = some p := by cases p <;> rfl
@[simp] theorem chanOf_chanCode (c : Chan) : chanOf (chanCode c) = some c := by cases c <;> rfl
@[simp] theorem kindOf_kindCode (k : Kind) : kindOf (kindCode k) = some k := by cases k <;> rfl
@[simp] theorem searchOf_searchCode (m : SearchMode) : searchOf (searchCode m) = some m := by cases m <;> rfl
@[simp] theorem modeOf_modeCode (m : ArbMode) : modeOf (modeCode m) = some m := by cases m <;> rfl
@[simp] theorem markOf_markCode (b : Bool) : markOf (markCode b) = some b := by cases b <;> rfl

/-- A byte above 5 names no target. -/
theorem targetOf_none {b : Byte} (h : 5 < b.toNat) : targetOf b = none := by
  have ne : ∀ n : Byte, n.toNat ≤ 5 → b ≠ n := by rintro n hn rfl; omega
  simp [targetOf, ne 0#8 (by decide), ne 1#8 (by decide), ne 2#8 (by decide), ne 3#8 (by decide), ne 4#8 (by decide),
    ne 5#8 (by decide)]

/-- A byte above 7 names no position. -/
theorem positionOf_none {b : Byte} (h : 7 < b.toNat) : positionOf b = none := by
  have ne : ∀ n : Byte, n.toNat ≤ 7 → b ≠ n := by rintro n hn rfl; omega
  simp [positionOf, ne 0#8 (by decide), ne 1#8 (by decide), ne 2#8 (by decide), ne 3#8 (by decide), ne 4#8 (by decide),
    ne 5#8 (by decide), ne 6#8 (by decide), ne 7#8 (by decide)]

end Sys2Proof.Machine
end

