-- ==== Sys2Proof/Laws/Tables.lean ====
section
/-! SUPPORT. The read-after-write laws of the tables over targets, positions, ports and channels. -/

namespace Sys2Proof.Machine

/-- A read of the entry just written gives the value written. -/
@[simp] theorem PerTarget.get_set_same {α : Type} (m : PerTarget α) (i : Target) (x : α) : (m.set i x).get i = x := by
  cases i <;> rfl

/-- A write leaves every other entry as it was. -/
theorem PerTarget.get_set_of_ne {α : Type} (m : PerTarget α) {i k : Target} (x : α) (h : k ≠ i) : (m.set i x).get k = m.get k := by
  cases i <;> cases k <;> first | rfl | exact absurd rfl h

/-- A read after a write, in one equation. -/
theorem PerTarget.get_set {α : Type} (m : PerTarget α) (i k : Target) (x : α) :
    (m.set i x).get k = if k = i then x else m.get k := by
  cases i <;> cases k <;> rfl

/-- Every entry of a table that holds one value is that value. -/
@[simp] theorem PerTarget.get_all {α : Type} (x : α) (i : Target) : (PerTarget.all x).get i = x := by
  cases i <;> rfl

/-- Writing the value an entry holds changes nothing. -/
@[simp] theorem PerTarget.set_get_self {α : Type} (m : PerTarget α) (i : Target) : m.set i (m.get i) = m := by
  cases i <;> rfl

/-- Of two writes to one entry the last stands. -/
@[simp] theorem PerTarget.set_set {α : Type} (m : PerTarget α) (i : Target) (x y : α) : (m.set i x).set i y = m.set i y := by
  cases i <;> rfl

/-- Tables with equal entries are equal. -/
theorem PerTarget.ext_get {α : Type} {m n : PerTarget α} (h : ∀ i, m.get i = n.get i) : m = n := by
  cases m; cases n
  simp only [PerTarget.mk.injEq]
  exact ⟨h .t0, h .t1, h .t2, h .t3, h .t4, h .t5⟩

/-- A read of the entry just written gives the value written. -/
@[simp] theorem PerPosition.get_set_same {α : Type} (m : PerPosition α) (i : Position) (x : α) : (m.set i x).get i = x := by
  cases i <;> rfl

/-- A write leaves every other entry as it was. -/
theorem PerPosition.get_set_of_ne {α : Type} (m : PerPosition α) {i k : Position} (x : α) (h : k ≠ i) : (m.set i x).get k = m.get k := by
  cases i <;> cases k <;> first | rfl | exact absurd rfl h

/-- A read after a write, in one equation. -/
theorem PerPosition.get_set {α : Type} (m : PerPosition α) (i k : Position) (x : α) :
    (m.set i x).get k = if k = i then x else m.get k := by
  cases i <;> cases k <;> rfl

/-- Every entry of a table that holds one value is that value. -/
@[simp] theorem PerPosition.get_all {α : Type} (x : α) (i : Position) : (PerPosition.all x).get i = x := by
  cases i <;> rfl

/-- Writing the value an entry holds changes nothing. -/
@[simp] theorem PerPosition.set_get_self {α : Type} (m : PerPosition α) (i : Position) : m.set i (m.get i) = m := by
  cases i <;> rfl

/-- Of two writes to one entry the last stands. -/
@[simp] theorem PerPosition.set_set {α : Type} (m : PerPosition α) (i : Position) (x y : α) : (m.set i x).set i y = m.set i y := by
  cases i <;> rfl

/-- Tables with equal entries are equal. -/
theorem PerPosition.ext_get {α : Type} {m n : PerPosition α} (h : ∀ i, m.get i = n.get i) : m = n := by
  cases m; cases n
  simp only [PerPosition.mk.injEq]
  exact ⟨h .p0, h .p1, h .p2, h .p3, h .p4, h .p5, h .p6, h .p7⟩

/-- A read of the entry just written gives the value written. -/
@[simp] theorem PerPort.get_set_same {α : Type} (m : PerPort α) (i : Port) (x : α) : (m.set i x).get i = x := by
  cases i <;> rfl

/-- A write leaves every other entry as it was. -/
theorem PerPort.get_set_of_ne {α : Type} (m : PerPort α) {i k : Port} (x : α) (h : k ≠ i) : (m.set i x).get k = m.get k := by
  cases i <;> cases k <;> first | rfl | exact absurd rfl h

/-- A read after a write, in one equation. -/
theorem PerPort.get_set {α : Type} (m : PerPort α) (i k : Port) (x : α) :
    (m.set i x).get k = if k = i then x else m.get k := by
  cases i <;> cases k <;> rfl

/-- Every entry of a table that holds one value is that value. -/
@[simp] theorem PerPort.get_all {α : Type} (x : α) (i : Port) : (PerPort.all x).get i = x := by
  cases i <;> rfl

/-- Writing the value an entry holds changes nothing. -/
@[simp] theorem PerPort.set_get_self {α : Type} (m : PerPort α) (i : Port) : m.set i (m.get i) = m := by
  cases i <;> rfl

/-- Of two writes to one entry the last stands. -/
@[simp] theorem PerPort.set_set {α : Type} (m : PerPort α) (i : Port) (x y : α) : (m.set i x).set i y = m.set i y := by
  cases i <;> rfl

/-- Tables with equal entries are equal. -/
theorem PerPort.ext_get {α : Type} {m n : PerPort α} (h : ∀ i, m.get i = n.get i) : m = n := by
  cases m; cases n
  simp only [PerPort.mk.injEq]
  exact ⟨h .flash0, h .flash1, h .card, h .host⟩

/-- A read of the entry just written gives the value written. -/
@[simp] theorem PerChan.get_set_same {α : Type} (m : PerChan α) (i : Chan) (x : α) : (m.set i x).get i = x := by
  cases i <;> rfl

/-- A write leaves every other entry as it was. -/
theorem PerChan.get_set_of_ne {α : Type} (m : PerChan α) {i k : Chan} (x : α) (h : k ≠ i) : (m.set i x).get k = m.get k := by
  cases i <;> cases k <;> first | rfl | exact absurd rfl h

/-- A read after a write, in one equation. -/
theorem PerChan.get_set {α : Type} (m : PerChan α) (i k : Chan) (x : α) :
    (m.set i x).get k = if k = i then x else m.get k := by
  cases i <;> cases k <;> rfl

/-- Every entry of a table that holds one value is that value. -/
@[simp] theorem PerChan.get_all {α : Type} (x : α) (i : Chan) : (PerChan.all x).get i = x := by
  cases i <;> rfl

/-- Writing the value an entry holds changes nothing. -/
@[simp] theorem PerChan.set_get_self {α : Type} (m : PerChan α) (i : Chan) : m.set i (m.get i) = m := by
  cases i <;> rfl

/-- Of two writes to one entry the last stands. -/
@[simp] theorem PerChan.set_set {α : Type} (m : PerChan α) (i : Chan) (x y : α) : (m.set i x).set i y = m.set i y := by
  cases i <;> rfl

/-- Tables with equal entries are equal. -/
theorem PerChan.ext_get {α : Type} {m n : PerChan α} (h : ∀ i, m.get i = n.get i) : m = n := by
  cases m; cases n
  simp only [PerChan.mk.injEq]
  exact ⟨h .a, h .b⟩

end Sys2Proof.Machine
end

