-- ==== Sys2Proof/Laws/State.lean ====
section
/-! SUPPORT. One lemma per field of State for each update of State: the field it writes, and every field it leaves. -/

namespace Sys2Proof.Machine

@[simp] theorem State.updSlot_pins (s : State) (t : Target) (f : JobSlot → JobSlot) : (s.updSlot t f).pins = s.pins := rfl
@[simp] theorem State.updSlot_link (s : State) (t : Target) (f : JobSlot → JobSlot) : (s.updSlot t f).link = s.link := rfl
@[simp] theorem State.updSlot_reports (s : State) (t : Target) (f : JobSlot → JobSlot) : (s.updSlot t f).reports = s.reports := rfl
@[simp] theorem State.updSlot_jobs (s : State) (t : Target) (f : JobSlot → JobSlot) : (s.updSlot t f).jobs = s.jobs.set t (f (s.jobs.get t)) := rfl
@[simp] theorem State.updSlot_queues (s : State) (t : Target) (f : JobSlot → JobSlot) : (s.updSlot t f).queues = s.queues := rfl
@[simp] theorem State.updSlot_channels (s : State) (t : Target) (f : JobSlot → JobSlot) : (s.updSlot t f).channels = s.channels := rfl
@[simp] theorem State.updSlot_ports (s : State) (t : Target) (f : JobSlot → JobSlot) : (s.updSlot t f).ports = s.ports := rfl
@[simp] theorem State.updSlot_wanted (s : State) (t : Target) (f : JobSlot → JobSlot) : (s.updSlot t f).wanted = s.wanted := rfl
@[simp] theorem State.updSlot_lines (s : State) (t : Target) (f : JobSlot → JobSlot) : (s.updSlot t f).lines = s.lines := rfl
@[simp] theorem State.updSlot_store (s : State) (t : Target) (f : JobSlot → JobSlot) : (s.updSlot t f).store = s.store := rfl
@[simp] theorem State.updSlot_raised (s : State) (t : Target) (f : JobSlot → JobSlot) : (s.updSlot t f).raised = s.raised := rfl
@[simp] theorem State.updSlot_pending (s : State) (t : Target) (f : JobSlot → JobSlot) : (s.updSlot t f).pending = s.pending := rfl

@[simp] theorem State.updChannel_pins (s : State) (c : Chan) (f : Channel → Channel) : (s.updChannel c f).pins = s.pins := rfl
@[simp] theorem State.updChannel_link (s : State) (c : Chan) (f : Channel → Channel) : (s.updChannel c f).link = s.link := rfl
@[simp] theorem State.updChannel_reports (s : State) (c : Chan) (f : Channel → Channel) : (s.updChannel c f).reports = s.reports := rfl
@[simp] theorem State.updChannel_jobs (s : State) (c : Chan) (f : Channel → Channel) : (s.updChannel c f).jobs = s.jobs := rfl
@[simp] theorem State.updChannel_queues (s : State) (c : Chan) (f : Channel → Channel) : (s.updChannel c f).queues = s.queues := rfl
@[simp] theorem State.updChannel_channels (s : State) (c : Chan) (f : Channel → Channel) : (s.updChannel c f).channels = s.channels.set c (f (s.channels.get c)) := rfl
@[simp] theorem State.updChannel_ports (s : State) (c : Chan) (f : Channel → Channel) : (s.updChannel c f).ports = s.ports := rfl
@[simp] theorem State.updChannel_wanted (s : State) (c : Chan) (f : Channel → Channel) : (s.updChannel c f).wanted = s.wanted := rfl
@[simp] theorem State.updChannel_lines (s : State) (c : Chan) (f : Channel → Channel) : (s.updChannel c f).lines = s.lines := rfl
@[simp] theorem State.updChannel_store (s : State) (c : Chan) (f : Channel → Channel) : (s.updChannel c f).store = s.store := rfl
@[simp] theorem State.updChannel_raised (s : State) (c : Chan) (f : Channel → Channel) : (s.updChannel c f).raised = s.raised := rfl
@[simp] theorem State.updChannel_pending (s : State) (c : Chan) (f : Channel → Channel) : (s.updChannel c f).pending = s.pending := rfl

@[simp] theorem State.updQueue_pins (s : State) (c : Chan) (f : List Target → List Target) : (s.updQueue c f).pins = s.pins := rfl
@[simp] theorem State.updQueue_link (s : State) (c : Chan) (f : List Target → List Target) : (s.updQueue c f).link = s.link := rfl
@[simp] theorem State.updQueue_reports (s : State) (c : Chan) (f : List Target → List Target) : (s.updQueue c f).reports = s.reports := rfl
@[simp] theorem State.updQueue_jobs (s : State) (c : Chan) (f : List Target → List Target) : (s.updQueue c f).jobs = s.jobs := rfl
@[simp] theorem State.updQueue_queues (s : State) (c : Chan) (f : List Target → List Target) : (s.updQueue c f).queues = s.queues.set c (f (s.queues.get c)) := rfl
@[simp] theorem State.updQueue_channels (s : State) (c : Chan) (f : List Target → List Target) : (s.updQueue c f).channels = s.channels := rfl
@[simp] theorem State.updQueue_ports (s : State) (c : Chan) (f : List Target → List Target) : (s.updQueue c f).ports = s.ports := rfl
@[simp] theorem State.updQueue_wanted (s : State) (c : Chan) (f : List Target → List Target) : (s.updQueue c f).wanted = s.wanted := rfl
@[simp] theorem State.updQueue_lines (s : State) (c : Chan) (f : List Target → List Target) : (s.updQueue c f).lines = s.lines := rfl
@[simp] theorem State.updQueue_store (s : State) (c : Chan) (f : List Target → List Target) : (s.updQueue c f).store = s.store := rfl
@[simp] theorem State.updQueue_raised (s : State) (c : Chan) (f : List Target → List Target) : (s.updQueue c f).raised = s.raised := rfl
@[simp] theorem State.updQueue_pending (s : State) (c : Chan) (f : List Target → List Target) : (s.updQueue c f).pending = s.pending := rfl

@[simp] theorem State.updPort_pins (s : State) (p : Port) (f : SourcePort → SourcePort) : (s.updPort p f).pins = s.pins := rfl
@[simp] theorem State.updPort_link (s : State) (p : Port) (f : SourcePort → SourcePort) : (s.updPort p f).link = s.link := rfl
@[simp] theorem State.updPort_reports (s : State) (p : Port) (f : SourcePort → SourcePort) : (s.updPort p f).reports = s.reports := rfl
@[simp] theorem State.updPort_jobs (s : State) (p : Port) (f : SourcePort → SourcePort) : (s.updPort p f).jobs = s.jobs := rfl
@[simp] theorem State.updPort_queues (s : State) (p : Port) (f : SourcePort → SourcePort) : (s.updPort p f).queues = s.queues := rfl
@[simp] theorem State.updPort_channels (s : State) (p : Port) (f : SourcePort → SourcePort) : (s.updPort p f).channels = s.channels := rfl
@[simp] theorem State.updPort_ports (s : State) (p : Port) (f : SourcePort → SourcePort) : (s.updPort p f).ports = s.ports.set p (f (s.ports.get p)) := rfl
@[simp] theorem State.updPort_wanted (s : State) (p : Port) (f : SourcePort → SourcePort) : (s.updPort p f).wanted = s.wanted := rfl
@[simp] theorem State.updPort_lines (s : State) (p : Port) (f : SourcePort → SourcePort) : (s.updPort p f).lines = s.lines := rfl
@[simp] theorem State.updPort_store (s : State) (p : Port) (f : SourcePort → SourcePort) : (s.updPort p f).store = s.store := rfl
@[simp] theorem State.updPort_raised (s : State) (p : Port) (f : SourcePort → SourcePort) : (s.updPort p f).raised = s.raised := rfl
@[simp] theorem State.updPort_pending (s : State) (p : Port) (f : SourcePort → SourcePort) : (s.updPort p f).pending = s.pending := rfl

@[simp] theorem State.updLine_pins (s : State) (t : Target) (f : TargetPort → TargetPort) : (s.updLine t f).pins = s.pins := rfl
@[simp] theorem State.updLine_link (s : State) (t : Target) (f : TargetPort → TargetPort) : (s.updLine t f).link = s.link := rfl
@[simp] theorem State.updLine_reports (s : State) (t : Target) (f : TargetPort → TargetPort) : (s.updLine t f).reports = s.reports := rfl
@[simp] theorem State.updLine_jobs (s : State) (t : Target) (f : TargetPort → TargetPort) : (s.updLine t f).jobs = s.jobs := rfl
@[simp] theorem State.updLine_queues (s : State) (t : Target) (f : TargetPort → TargetPort) : (s.updLine t f).queues = s.queues := rfl
@[simp] theorem State.updLine_channels (s : State) (t : Target) (f : TargetPort → TargetPort) : (s.updLine t f).channels = s.channels := rfl
@[simp] theorem State.updLine_ports (s : State) (t : Target) (f : TargetPort → TargetPort) : (s.updLine t f).ports = s.ports := rfl
@[simp] theorem State.updLine_wanted (s : State) (t : Target) (f : TargetPort → TargetPort) : (s.updLine t f).wanted = s.wanted := rfl
@[simp] theorem State.updLine_lines (s : State) (t : Target) (f : TargetPort → TargetPort) : (s.updLine t f).lines = s.lines.set t (f (s.lines.get t)) := rfl
@[simp] theorem State.updLine_store (s : State) (t : Target) (f : TargetPort → TargetPort) : (s.updLine t f).store = s.store := rfl
@[simp] theorem State.updLine_raised (s : State) (t : Target) (f : TargetPort → TargetPort) : (s.updLine t f).raised = s.raised := rfl
@[simp] theorem State.updLine_pending (s : State) (t : Target) (f : TargetPort → TargetPort) : (s.updLine t f).pending = s.pending := rfl

@[simp] theorem State.updStore_pins (s : State) (f : SetupStore → SetupStore) : (s.updStore f).pins = s.pins := rfl
@[simp] theorem State.updStore_link (s : State) (f : SetupStore → SetupStore) : (s.updStore f).link = s.link := rfl
@[simp] theorem State.updStore_reports (s : State) (f : SetupStore → SetupStore) : (s.updStore f).reports = s.reports := rfl
@[simp] theorem State.updStore_jobs (s : State) (f : SetupStore → SetupStore) : (s.updStore f).jobs = s.jobs := rfl
@[simp] theorem State.updStore_queues (s : State) (f : SetupStore → SetupStore) : (s.updStore f).queues = s.queues := rfl
@[simp] theorem State.updStore_channels (s : State) (f : SetupStore → SetupStore) : (s.updStore f).channels = s.channels := rfl
@[simp] theorem State.updStore_ports (s : State) (f : SetupStore → SetupStore) : (s.updStore f).ports = s.ports := rfl
@[simp] theorem State.updStore_wanted (s : State) (f : SetupStore → SetupStore) : (s.updStore f).wanted = s.wanted := rfl
@[simp] theorem State.updStore_lines (s : State) (f : SetupStore → SetupStore) : (s.updStore f).lines = s.lines := rfl
@[simp] theorem State.updStore_store (s : State) (f : SetupStore → SetupStore) : (s.updStore f).store = f s.store := rfl
@[simp] theorem State.updStore_raised (s : State) (f : SetupStore → SetupStore) : (s.updStore f).raised = s.raised := rfl
@[simp] theorem State.updStore_pending (s : State) (f : SetupStore → SetupStore) : (s.updStore f).pending = s.pending := rfl

@[simp] theorem State.updLink_pins (s : State) (f : Link → Link) : (s.updLink f).pins = s.pins := rfl
@[simp] theorem State.updLink_link (s : State) (f : Link → Link) : (s.updLink f).link = f s.link := rfl
@[simp] theorem State.updLink_reports (s : State) (f : Link → Link) : (s.updLink f).reports = s.reports := rfl
@[simp] theorem State.updLink_jobs (s : State) (f : Link → Link) : (s.updLink f).jobs = s.jobs := rfl
@[simp] theorem State.updLink_queues (s : State) (f : Link → Link) : (s.updLink f).queues = s.queues := rfl
@[simp] theorem State.updLink_channels (s : State) (f : Link → Link) : (s.updLink f).channels = s.channels := rfl
@[simp] theorem State.updLink_ports (s : State) (f : Link → Link) : (s.updLink f).ports = s.ports := rfl
@[simp] theorem State.updLink_wanted (s : State) (f : Link → Link) : (s.updLink f).wanted = s.wanted := rfl
@[simp] theorem State.updLink_lines (s : State) (f : Link → Link) : (s.updLink f).lines = s.lines := rfl
@[simp] theorem State.updLink_store (s : State) (f : Link → Link) : (s.updLink f).store = s.store := rfl
@[simp] theorem State.updLink_raised (s : State) (f : Link → Link) : (s.updLink f).raised = s.raised := rfl
@[simp] theorem State.updLink_pending (s : State) (f : Link → Link) : (s.updLink f).pending = s.pending := rfl

@[simp] theorem State.updReports_pins (s : State) (f : ReportQueue → ReportQueue) : (s.updReports f).pins = s.pins := rfl
@[simp] theorem State.updReports_link (s : State) (f : ReportQueue → ReportQueue) : (s.updReports f).link = s.link := rfl
@[simp] theorem State.updReports_reports (s : State) (f : ReportQueue → ReportQueue) : (s.updReports f).reports = f s.reports := rfl
@[simp] theorem State.updReports_jobs (s : State) (f : ReportQueue → ReportQueue) : (s.updReports f).jobs = s.jobs := rfl
@[simp] theorem State.updReports_queues (s : State) (f : ReportQueue → ReportQueue) : (s.updReports f).queues = s.queues := rfl
@[simp] theorem State.updReports_channels (s : State) (f : ReportQueue → ReportQueue) : (s.updReports f).channels = s.channels := rfl
@[simp] theorem State.updReports_ports (s : State) (f : ReportQueue → ReportQueue) : (s.updReports f).ports = s.ports := rfl
@[simp] theorem State.updReports_wanted (s : State) (f : ReportQueue → ReportQueue) : (s.updReports f).wanted = s.wanted := rfl
@[simp] theorem State.updReports_lines (s : State) (f : ReportQueue → ReportQueue) : (s.updReports f).lines = s.lines := rfl
@[simp] theorem State.updReports_store (s : State) (f : ReportQueue → ReportQueue) : (s.updReports f).store = s.store := rfl
@[simp] theorem State.updReports_raised (s : State) (f : ReportQueue → ReportQueue) : (s.updReports f).raised = s.raised := rfl
@[simp] theorem State.updReports_pending (s : State) (f : ReportQueue → ReportQueue) : (s.updReports f).pending = s.pending := rfl

@[simp] theorem State.setWanted_pins (s : State) (w : List Wanted) : (s.setWanted w).pins = s.pins := rfl
@[simp] theorem State.setWanted_link (s : State) (w : List Wanted) : (s.setWanted w).link = s.link := rfl
@[simp] theorem State.setWanted_reports (s : State) (w : List Wanted) : (s.setWanted w).reports = s.reports := rfl
@[simp] theorem State.setWanted_jobs (s : State) (w : List Wanted) : (s.setWanted w).jobs = s.jobs := rfl
@[simp] theorem State.setWanted_queues (s : State) (w : List Wanted) : (s.setWanted w).queues = s.queues := rfl
@[simp] theorem State.setWanted_channels (s : State) (w : List Wanted) : (s.setWanted w).channels = s.channels := rfl
@[simp] theorem State.setWanted_ports (s : State) (w : List Wanted) : (s.setWanted w).ports = s.ports := rfl
@[simp] theorem State.setWanted_wanted (s : State) (w : List Wanted) : (s.setWanted w).wanted = w := rfl
@[simp] theorem State.setWanted_lines (s : State) (w : List Wanted) : (s.setWanted w).lines = s.lines := rfl
@[simp] theorem State.setWanted_store (s : State) (w : List Wanted) : (s.setWanted w).store = s.store := rfl
@[simp] theorem State.setWanted_raised (s : State) (w : List Wanted) : (s.setWanted w).raised = s.raised := rfl
@[simp] theorem State.setWanted_pending (s : State) (w : List Wanted) : (s.setWanted w).pending = s.pending := rfl

@[simp] theorem State.updPins_pins (s : State) (f : Pins → Pins) : (s.updPins f).pins = f s.pins := rfl
@[simp] theorem State.updPins_link (s : State) (f : Pins → Pins) : (s.updPins f).link = s.link := rfl
@[simp] theorem State.updPins_reports (s : State) (f : Pins → Pins) : (s.updPins f).reports = s.reports := rfl
@[simp] theorem State.updPins_jobs (s : State) (f : Pins → Pins) : (s.updPins f).jobs = s.jobs := rfl
@[simp] theorem State.updPins_queues (s : State) (f : Pins → Pins) : (s.updPins f).queues = s.queues := rfl
@[simp] theorem State.updPins_channels (s : State) (f : Pins → Pins) : (s.updPins f).channels = s.channels := rfl
@[simp] theorem State.updPins_ports (s : State) (f : Pins → Pins) : (s.updPins f).ports = s.ports := rfl
@[simp] theorem State.updPins_wanted (s : State) (f : Pins → Pins) : (s.updPins f).wanted = s.wanted := rfl
@[simp] theorem State.updPins_lines (s : State) (f : Pins → Pins) : (s.updPins f).lines = s.lines := rfl
@[simp] theorem State.updPins_store (s : State) (f : Pins → Pins) : (s.updPins f).store = s.store := rfl
@[simp] theorem State.updPins_raised (s : State) (f : Pins → Pins) : (s.updPins f).raised = s.raised := rfl
@[simp] theorem State.updPins_pending (s : State) (f : Pins → Pins) : (s.updPins f).pending = s.pending := rfl

@[simp] theorem State.raise_pins (s : State) (r : ReportId) : (s.raise r).pins = s.pins := rfl
@[simp] theorem State.raise_link (s : State) (r : ReportId) : (s.raise r).link = s.link := rfl
@[simp] theorem State.raise_reports (s : State) (r : ReportId) : (s.raise r).reports = s.reports := rfl
@[simp] theorem State.raise_jobs (s : State) (r : ReportId) : (s.raise r).jobs = s.jobs := rfl
@[simp] theorem State.raise_queues (s : State) (r : ReportId) : (s.raise r).queues = s.queues := rfl
@[simp] theorem State.raise_channels (s : State) (r : ReportId) : (s.raise r).channels = s.channels := rfl
@[simp] theorem State.raise_ports (s : State) (r : ReportId) : (s.raise r).ports = s.ports := rfl
@[simp] theorem State.raise_wanted (s : State) (r : ReportId) : (s.raise r).wanted = s.wanted := rfl
@[simp] theorem State.raise_lines (s : State) (r : ReportId) : (s.raise r).lines = s.lines := rfl
@[simp] theorem State.raise_store (s : State) (r : ReportId) : (s.raise r).store = s.store := rfl
@[simp] theorem State.raise_raised (s : State) (r : ReportId) : (s.raise r).raised = r :: s.raised := rfl
@[simp] theorem State.raise_pending (s : State) (r : ReportId) : (s.raise r).pending = s.pending := rfl

@[simp] theorem State.setCapacity_pins (s : State) (p : Port) (n : Nat) : (s.setCapacity p n).pins = s.pins := rfl
@[simp] theorem State.setCapacity_link (s : State) (p : Port) (n : Nat) : (s.setCapacity p n).link = s.link := rfl
@[simp] theorem State.setCapacity_reports (s : State) (p : Port) (n : Nat) : (s.setCapacity p n).reports = s.reports := rfl
@[simp] theorem State.setCapacity_jobs (s : State) (p : Port) (n : Nat) : (s.setCapacity p n).jobs = s.jobs := rfl
@[simp] theorem State.setCapacity_queues (s : State) (p : Port) (n : Nat) : (s.setCapacity p n).queues = s.queues := rfl
@[simp] theorem State.setCapacity_channels (s : State) (p : Port) (n : Nat) : (s.setCapacity p n).channels = s.channels := rfl
@[simp] theorem State.setCapacity_ports (s : State) (p : Port) (n : Nat) : (s.setCapacity p n).ports = s.ports.set p { s.ports.get p with capacity := n } := rfl
@[simp] theorem State.setCapacity_wanted (s : State) (p : Port) (n : Nat) : (s.setCapacity p n).wanted = s.wanted := rfl
@[simp] theorem State.setCapacity_lines (s : State) (p : Port) (n : Nat) : (s.setCapacity p n).lines = s.lines := rfl
@[simp] theorem State.setCapacity_store (s : State) (p : Port) (n : Nat) : (s.setCapacity p n).store = s.store := rfl
@[simp] theorem State.setCapacity_raised (s : State) (p : Port) (n : Nat) : (s.setCapacity p n).raised = s.raised := rfl
@[simp] theorem State.setCapacity_pending (s : State) (p : Port) (n : Nat) : (s.setCapacity p n).pending = s.pending := rfl

@[simp] theorem State.updJob_pins (s : State) (t : Target) (f : Job → Job) : (s.updJob t f).pins = s.pins := rfl
@[simp] theorem State.updJob_link (s : State) (t : Target) (f : Job → Job) : (s.updJob t f).link = s.link := rfl
@[simp] theorem State.updJob_reports (s : State) (t : Target) (f : Job → Job) : (s.updJob t f).reports = s.reports := rfl
@[simp] theorem State.updJob_jobs (s : State) (t : Target) (f : Job → Job) : (s.updJob t f).jobs = s.jobs.set t { s.jobs.get t with job := (s.jobs.get t).job.map f } := rfl
@[simp] theorem State.updJob_queues (s : State) (t : Target) (f : Job → Job) : (s.updJob t f).queues = s.queues := rfl
@[simp] theorem State.updJob_channels (s : State) (t : Target) (f : Job → Job) : (s.updJob t f).channels = s.channels := rfl
@[simp] theorem State.updJob_ports (s : State) (t : Target) (f : Job → Job) : (s.updJob t f).ports = s.ports := rfl
@[simp] theorem State.updJob_wanted (s : State) (t : Target) (f : Job → Job) : (s.updJob t f).wanted = s.wanted := rfl
@[simp] theorem State.updJob_lines (s : State) (t : Target) (f : Job → Job) : (s.updJob t f).lines = s.lines := rfl
@[simp] theorem State.updJob_store (s : State) (t : Target) (f : Job → Job) : (s.updJob t f).store = s.store := rfl
@[simp] theorem State.updJob_raised (s : State) (t : Target) (f : Job → Job) : (s.updJob t f).raised = s.raised := rfl
@[simp] theorem State.updJob_pending (s : State) (t : Target) (f : Job → Job) : (s.updJob t f).pending = s.pending := rfl

@[simp] theorem State.setClaim_pins (s : State) (c : Chan) (p : Port) (k : Nat) : (s.setClaim c p k).pins = s.pins := rfl
@[simp] theorem State.setClaim_link (s : State) (c : Chan) (p : Port) (k : Nat) : (s.setClaim c p k).link = s.link := rfl
@[simp] theorem State.setClaim_reports (s : State) (c : Chan) (p : Port) (k : Nat) : (s.setClaim c p k).reports = s.reports := rfl
@[simp] theorem State.setClaim_jobs (s : State) (c : Chan) (p : Port) (k : Nat) : (s.setClaim c p k).jobs = s.jobs := rfl
@[simp] theorem State.setClaim_queues (s : State) (c : Chan) (p : Port) (k : Nat) : (s.setClaim c p k).queues = s.queues := rfl
@[simp] theorem State.setClaim_channels (s : State) (c : Chan) (p : Port) (k : Nat) : (s.setClaim c p k).channels = s.channels.set c { s.channels.get c with claim := some ⟨p, k⟩ } := rfl
@[simp] theorem State.setClaim_ports (s : State) (c : Chan) (p : Port) (k : Nat) : (s.setClaim c p k).ports = s.ports := rfl
@[simp] theorem State.setClaim_wanted (s : State) (c : Chan) (p : Port) (k : Nat) : (s.setClaim c p k).wanted = s.wanted := rfl
@[simp] theorem State.setClaim_lines (s : State) (c : Chan) (p : Port) (k : Nat) : (s.setClaim c p k).lines = s.lines := rfl
@[simp] theorem State.setClaim_store (s : State) (c : Chan) (p : Port) (k : Nat) : (s.setClaim c p k).store = s.store := rfl
@[simp] theorem State.setClaim_raised (s : State) (c : Chan) (p : Port) (k : Nat) : (s.setClaim c p k).raised = s.raised := rfl
@[simp] theorem State.setClaim_pending (s : State) (c : Chan) (p : Port) (k : Nat) : (s.setClaim c p k).pending = s.pending := rfl

@[simp] theorem State.putSlot_pins (s : State) (c : Chan) (k : Nat) (x : Slot) : (s.putSlot c k x).pins = s.pins := rfl
@[simp] theorem State.putSlot_link (s : State) (c : Chan) (k : Nat) (x : Slot) : (s.putSlot c k x).link = s.link := rfl
@[simp] theorem State.putSlot_reports (s : State) (c : Chan) (k : Nat) (x : Slot) : (s.putSlot c k x).reports = s.reports := rfl
@[simp] theorem State.putSlot_jobs (s : State) (c : Chan) (k : Nat) (x : Slot) : (s.putSlot c k x).jobs = s.jobs := rfl
@[simp] theorem State.putSlot_queues (s : State) (c : Chan) (k : Nat) (x : Slot) : (s.putSlot c k x).queues = s.queues := rfl
@[simp] theorem State.putSlot_channels (s : State) (c : Chan) (k : Nat) (x : Slot) : (s.putSlot c k x).channels = s.channels.set c { s.channels.get c with slots := setSlot k x (s.channels.get c).slots } := rfl
@[simp] theorem State.putSlot_ports (s : State) (c : Chan) (k : Nat) (x : Slot) : (s.putSlot c k x).ports = s.ports := rfl
@[simp] theorem State.putSlot_wanted (s : State) (c : Chan) (k : Nat) (x : Slot) : (s.putSlot c k x).wanted = s.wanted := rfl
@[simp] theorem State.putSlot_lines (s : State) (c : Chan) (k : Nat) (x : Slot) : (s.putSlot c k x).lines = s.lines := rfl
@[simp] theorem State.putSlot_store (s : State) (c : Chan) (k : Nat) (x : Slot) : (s.putSlot c k x).store = s.store := rfl
@[simp] theorem State.putSlot_raised (s : State) (c : Chan) (k : Nat) (x : Slot) : (s.putSlot c k x).raised = s.raised := rfl
@[simp] theorem State.putSlot_pending (s : State) (c : Chan) (k : Nat) (x : Slot) : (s.putSlot c k x).pending = s.pending := rfl

@[simp] theorem State.leaveChannel_pins (s : State) (c : Chan) : (s.leaveChannel c).pins = s.pins := rfl
@[simp] theorem State.leaveChannel_link (s : State) (c : Chan) : (s.leaveChannel c).link = s.link := rfl
@[simp] theorem State.leaveChannel_reports (s : State) (c : Chan) : (s.leaveChannel c).reports = s.reports := rfl
@[simp] theorem State.leaveChannel_jobs (s : State) (c : Chan) : (s.leaveChannel c).jobs = s.jobs := rfl
@[simp] theorem State.leaveChannel_queues (s : State) (c : Chan) : (s.leaveChannel c).queues = s.queues := rfl
@[simp] theorem State.leaveChannel_channels (s : State) (c : Chan) : (s.leaveChannel c).channels = s.channels.set c { s.channels.get c with running := none, params := none, check := none } := rfl
@[simp] theorem State.leaveChannel_ports (s : State) (c : Chan) : (s.leaveChannel c).ports = s.ports := rfl
@[simp] theorem State.leaveChannel_wanted (s : State) (c : Chan) : (s.leaveChannel c).wanted = s.wanted := rfl
@[simp] theorem State.leaveChannel_lines (s : State) (c : Chan) : (s.leaveChannel c).lines = s.lines := rfl
@[simp] theorem State.leaveChannel_store (s : State) (c : Chan) : (s.leaveChannel c).store = s.store := rfl
@[simp] theorem State.leaveChannel_raised (s : State) (c : Chan) : (s.leaveChannel c).raised = s.raised := rfl
@[simp] theorem State.leaveChannel_pending (s : State) (c : Chan) : (s.leaveChannel c).pending = s.pending := rfl

@[simp] theorem State.enterQueue_pins (s : State) (t : Target) : (s.enterQueue t).pins = s.pins := rfl
@[simp] theorem State.enterQueue_link (s : State) (t : Target) : (s.enterQueue t).link = s.link := rfl
@[simp] theorem State.enterQueue_reports (s : State) (t : Target) : (s.enterQueue t).reports = s.reports := rfl
@[simp] theorem State.enterQueue_jobs (s : State) (t : Target) : (s.enterQueue t).jobs = s.jobs := rfl
@[simp] theorem State.enterQueue_channels (s : State) (t : Target) : (s.enterQueue t).channels = s.channels := rfl
@[simp] theorem State.enterQueue_ports (s : State) (t : Target) : (s.enterQueue t).ports = s.ports := rfl
@[simp] theorem State.enterQueue_wanted (s : State) (t : Target) : (s.enterQueue t).wanted = s.wanted := rfl
@[simp] theorem State.enterQueue_lines (s : State) (t : Target) : (s.enterQueue t).lines = s.lines := rfl
@[simp] theorem State.enterQueue_store (s : State) (t : Target) : (s.enterQueue t).store = s.store := rfl
@[simp] theorem State.enterQueue_raised (s : State) (t : Target) : (s.enterQueue t).raised = s.raised := rfl
@[simp] theorem State.enterQueue_pending (s : State) (t : Target) : (s.enterQueue t).pending = s.pending := rfl

@[simp] theorem State.assertLine_pins (s : State) (t : Target) : (s.assertLine t).pins = s.pins := rfl
@[simp] theorem State.assertLine_link (s : State) (t : Target) : (s.assertLine t).link = s.link := rfl
@[simp] theorem State.assertLine_reports (s : State) (t : Target) : (s.assertLine t).reports = s.reports := rfl
@[simp] theorem State.assertLine_jobs (s : State) (t : Target) : (s.assertLine t).jobs = s.jobs := rfl
@[simp] theorem State.assertLine_queues (s : State) (t : Target) : (s.assertLine t).queues = s.queues := rfl
@[simp] theorem State.assertLine_channels (s : State) (t : Target) : (s.assertLine t).channels = s.channels := rfl
@[simp] theorem State.assertLine_ports (s : State) (t : Target) : (s.assertLine t).ports = s.ports := rfl
@[simp] theorem State.assertLine_wanted (s : State) (t : Target) : (s.assertLine t).wanted = s.wanted := rfl
@[simp] theorem State.assertLine_lines (s : State) (t : Target) : (s.assertLine t).lines = s.lines.set t (s.lines.get t).assert := rfl
@[simp] theorem State.assertLine_store (s : State) (t : Target) : (s.assertLine t).store = s.store := rfl
@[simp] theorem State.assertLine_raised (s : State) (t : Target) : (s.assertLine t).raised = s.raised := rfl
@[simp] theorem State.assertLine_pending (s : State) (t : Target) : (s.assertLine t).pending = s.pending := rfl

@[simp] theorem State.releaseLine_pins (s : State) (t : Target) : (s.releaseLine t).pins = s.pins := rfl
@[simp] theorem State.releaseLine_link (s : State) (t : Target) : (s.releaseLine t).link = s.link := rfl
@[simp] theorem State.releaseLine_reports (s : State) (t : Target) : (s.releaseLine t).reports = s.reports := rfl
@[simp] theorem State.releaseLine_jobs (s : State) (t : Target) : (s.releaseLine t).jobs = s.jobs := rfl
@[simp] theorem State.releaseLine_queues (s : State) (t : Target) : (s.releaseLine t).queues = s.queues := rfl
@[simp] theorem State.releaseLine_channels (s : State) (t : Target) : (s.releaseLine t).channels = s.channels := rfl
@[simp] theorem State.releaseLine_ports (s : State) (t : Target) : (s.releaseLine t).ports = s.ports := rfl
@[simp] theorem State.releaseLine_wanted (s : State) (t : Target) : (s.releaseLine t).wanted = s.wanted := rfl
@[simp] theorem State.releaseLine_store (s : State) (t : Target) : (s.releaseLine t).store = s.store := rfl
@[simp] theorem State.releaseLine_raised (s : State) (t : Target) : (s.releaseLine t).raised = s.raised := rfl
@[simp] theorem State.releaseLine_pending (s : State) (t : Target) : (s.releaseLine t).pending = s.pending := rfl

@[simp] theorem State.stopLane_pins (s : State) (t : Target) : (s.stopLane t).pins = s.pins := rfl
@[simp] theorem State.stopLane_link (s : State) (t : Target) : (s.stopLane t).link = s.link := rfl
@[simp] theorem State.stopLane_reports (s : State) (t : Target) : (s.stopLane t).reports = s.reports := rfl
@[simp] theorem State.stopLane_jobs (s : State) (t : Target) : (s.stopLane t).jobs = s.jobs := rfl
@[simp] theorem State.stopLane_queues (s : State) (t : Target) : (s.stopLane t).queues = s.queues := rfl
@[simp] theorem State.stopLane_channels (s : State) (t : Target) : (s.stopLane t).channels = s.channels := rfl
@[simp] theorem State.stopLane_ports (s : State) (t : Target) : (s.stopLane t).ports = s.ports := rfl
@[simp] theorem State.stopLane_wanted (s : State) (t : Target) : (s.stopLane t).wanted = s.wanted := rfl
@[simp] theorem State.stopLane_store (s : State) (t : Target) : (s.stopLane t).store = s.store := rfl
@[simp] theorem State.stopLane_raised (s : State) (t : Target) : (s.stopLane t).raised = s.raised := rfl
@[simp] theorem State.stopLane_pending (s : State) (t : Target) : (s.stopLane t).pending = s.pending := rfl

@[simp] theorem State.dropHead_pins (s : State) (t : Target) : (s.dropHead t).pins = s.pins := rfl
@[simp] theorem State.dropHead_link (s : State) (t : Target) : (s.dropHead t).link = s.link := rfl
@[simp] theorem State.dropHead_reports (s : State) (t : Target) : (s.dropHead t).reports = s.reports := rfl
@[simp] theorem State.dropHead_queues (s : State) (t : Target) : (s.dropHead t).queues = s.queues := rfl
@[simp] theorem State.dropHead_channels (s : State) (t : Target) : (s.dropHead t).channels = s.channels := rfl
@[simp] theorem State.dropHead_ports (s : State) (t : Target) : (s.dropHead t).ports = s.ports := rfl
@[simp] theorem State.dropHead_wanted (s : State) (t : Target) : (s.dropHead t).wanted = s.wanted := rfl
@[simp] theorem State.dropHead_lines (s : State) (t : Target) : (s.dropHead t).lines = s.lines := rfl
@[simp] theorem State.dropHead_store (s : State) (t : Target) : (s.dropHead t).store = s.store := rfl
@[simp] theorem State.dropHead_raised (s : State) (t : Target) : (s.dropHead t).raised = s.raised := rfl
@[simp] theorem State.dropHead_pending (s : State) (t : Target) : (s.dropHead t).pending = s.pending := rfl

@[simp] theorem State.reply_pins (s : State) (r : Request) (st : Status) (data : List Byte) : (s.reply r st data).pins = s.pins := rfl
@[simp] theorem State.reply_link (s : State) (r : Request) (st : Status) (data : List Byte) : (s.reply r st data).link = s.link.respond r st data false := rfl
@[simp] theorem State.reply_reports (s : State) (r : Request) (st : Status) (data : List Byte) : (s.reply r st data).reports = s.reports := rfl
@[simp] theorem State.reply_jobs (s : State) (r : Request) (st : Status) (data : List Byte) : (s.reply r st data).jobs = s.jobs := rfl
@[simp] theorem State.reply_queues (s : State) (r : Request) (st : Status) (data : List Byte) : (s.reply r st data).queues = s.queues := rfl
@[simp] theorem State.reply_channels (s : State) (r : Request) (st : Status) (data : List Byte) : (s.reply r st data).channels = s.channels := rfl
@[simp] theorem State.reply_ports (s : State) (r : Request) (st : Status) (data : List Byte) : (s.reply r st data).ports = s.ports := rfl
@[simp] theorem State.reply_wanted (s : State) (r : Request) (st : Status) (data : List Byte) : (s.reply r st data).wanted = s.wanted := rfl
@[simp] theorem State.reply_lines (s : State) (r : Request) (st : Status) (data : List Byte) : (s.reply r st data).lines = s.lines := rfl
@[simp] theorem State.reply_store (s : State) (r : Request) (st : Status) (data : List Byte) : (s.reply r st data).store = s.store := rfl
@[simp] theorem State.reply_raised (s : State) (r : Request) (st : Status) (data : List Byte) : (s.reply r st data).raised = s.raised := rfl
@[simp] theorem State.reply_pending (s : State) (r : Request) (st : Status) (data : List Byte) : (s.reply r st data).pending = s.pending := rfl

@[simp] theorem State.serve_pins (s : State) (r : Request) (w : Work) : (s.serve r w).pins = s.pins := rfl
@[simp] theorem State.serve_link (s : State) (r : Request) (w : Work) : (s.serve r w).link = { s.link with handler := .serving r w } := rfl
@[simp] theorem State.serve_reports (s : State) (r : Request) (w : Work) : (s.serve r w).reports = s.reports := rfl
@[simp] theorem State.serve_jobs (s : State) (r : Request) (w : Work) : (s.serve r w).jobs = s.jobs := rfl
@[simp] theorem State.serve_queues (s : State) (r : Request) (w : Work) : (s.serve r w).queues = s.queues := rfl
@[simp] theorem State.serve_channels (s : State) (r : Request) (w : Work) : (s.serve r w).channels = s.channels := rfl
@[simp] theorem State.serve_ports (s : State) (r : Request) (w : Work) : (s.serve r w).ports = s.ports := rfl
@[simp] theorem State.serve_wanted (s : State) (r : Request) (w : Work) : (s.serve r w).wanted = s.wanted := rfl
@[simp] theorem State.serve_lines (s : State) (r : Request) (w : Work) : (s.serve r w).lines = s.lines := rfl
@[simp] theorem State.serve_store (s : State) (r : Request) (w : Work) : (s.serve r w).store = s.store := rfl
@[simp] theorem State.serve_raised (s : State) (r : Request) (w : Work) : (s.serve r w).raised = s.raised := rfl
@[simp] theorem State.serve_pending (s : State) (r : Request) (w : Work) : (s.serve r w).pending = s.pending := rfl

@[simp] theorem State.setStage_pins (s : State) (g : SaveStage) : (s.setStage g).pins = s.pins := rfl
@[simp] theorem State.setStage_link (s : State) (g : SaveStage) : (s.setStage g).link = s.link := rfl
@[simp] theorem State.setStage_reports (s : State) (g : SaveStage) : (s.setStage g).reports = s.reports := rfl
@[simp] theorem State.setStage_jobs (s : State) (g : SaveStage) : (s.setStage g).jobs = s.jobs := rfl
@[simp] theorem State.setStage_queues (s : State) (g : SaveStage) : (s.setStage g).queues = s.queues := rfl
@[simp] theorem State.setStage_channels (s : State) (g : SaveStage) : (s.setStage g).channels = s.channels := rfl
@[simp] theorem State.setStage_ports (s : State) (g : SaveStage) : (s.setStage g).ports = s.ports := rfl
@[simp] theorem State.setStage_wanted (s : State) (g : SaveStage) : (s.setStage g).wanted = s.wanted := rfl
@[simp] theorem State.setStage_lines (s : State) (g : SaveStage) : (s.setStage g).lines = s.lines := rfl
@[simp] theorem State.setStage_raised (s : State) (g : SaveStage) : (s.setStage g).raised = s.raised := rfl
@[simp] theorem State.setStage_pending (s : State) (g : SaveStage) : (s.setStage g).pending = s.pending := rfl

end Sys2Proof.Machine
end

