-- ==== Sys2Proof/Laws/Events.lean ====
section
/-! SUPPORT. What an event does besides its own action: nothing while the reset input is held, and the placing of its
reports at its end; and what a take of a request and its reply do. -/

namespace Sys2Proof.Machine

/-! ### Submissions and the end of an event (R179, R180) -/

/-- A submission touches the entries of the Report Queue alone. -/
theorem submit_eq (s : State) (r : ReportId) :
    s.submit r = { s with reports := { s.reports with entries := match s.content r with
      | some x => placeEntry r x s.reports.entries
      | none => s.reports.entries } } := by
  unfold State.submit
  split <;> simp_all [State.updReports]

/-- What a report says does not depend on the Report Queue. -/
theorem content_reports (s : State) (q : ReportQueue) (r : ReportId) :
    State.content { s with reports := q } r = s.content r := rfl

/-- What a report says does not depend on the reports raised. -/
theorem content_raised (s : State) (l : List ReportId) (r : ReportId) :
    State.content { s with raised := l } r = s.content r := rfl

/-- The submissions of an event touch the entries of the Report Queue alone. -/
theorem foldl_submit (order : List ReportId) (m : List ReportId) (s : State) :
    ∃ es, order.foldl (fun x r => if r ∈ m then x.submit r else x) s
      = { s with reports := { s.reports with entries := es } } := by
  induction order generalizing s with
  | nil => exact ⟨s.reports.entries, rfl⟩
  | cons r rs ih =>
    rw [List.foldl_cons]
    split
    · obtain ⟨es, h⟩ := ih (s.submit r)
      exact ⟨es, by rw [h, submit_eq]⟩
    · exact ih s

/-- The end of an event touches the entries of the Report Queue and the reports raised alone. -/
theorem flush_eq (s : State) (order : List ReportId) :
    ∃ es, s.flush order = { s with reports := { s.reports with entries := es }, raised := [] } := by
  obtain ⟨es, h⟩ := foldl_submit order s.raised s
  exact ⟨es, by rw [State.flush]; dsimp only; rw [h]⟩

theorem foldl_submit_none (order : List ReportId) (s : State) :
    order.foldl (fun x r => if r ∈ ([] : List ReportId) then x.submit r else x) s = s := by
  induction order generalizing s with
  | nil => rfl
  | cons r rs ih => rw [List.foldl_cons, if_neg (List.not_mem_nil), ih]

/-- An event that raises no report ends with no submission. -/
theorem flush_none (s : State) (order : List ReportId) (h : s.raised = []) : s.flush order = { s with raised := [] } := by
  rw [State.flush, h]; rw [foldl_submit_none]

/-- An event whose raised reports all are `r` submits `r` once. -/
theorem flush_one (s : State) (r : ReportId) (hm : ∀ x, x ∈ s.raised ↔ x = r) (order : List ReportId)
    (hn : order.Nodup) (hr : r ∈ order) : s.flush order = { s.submit r with raised := [] } := by
  have key : ∀ (order : List ReportId) (x : State), order.Nodup →
      order.foldl (fun x q => if q ∈ s.raised then x.submit q else x) x = if r ∈ order then x.submit r else x := by
    intro order
    induction order with
    | nil => intro x _; simp
    | cons q qs ih =>
      intro x hn
      obtain ⟨hq, hn⟩ := List.nodup_cons.1 hn
      rw [List.foldl_cons, ih _ hn]
      by_cases h : q = r
      · subst h; simp [hm, hq]
      · have h2 : ¬ r = q := fun e => h e.symm
        simp [hm, h, h2]
  rw [State.flush]; dsimp only; rw [key order s hn, if_pos hr]

theorem tableOrder_nodup : tableOrder.Nodup := by decide

theorem wantFirst_nodup : wantFirst.Nodup := by decide

/-- R178: every kind and subject stands in the order of the table. -/
theorem mem_tableOrder (r : ReportId) : r ∈ tableOrder := by
  cases r with
  | part => decide
  | job t => cases t <;> decide
  | want t => cases t <;> decide

theorem mem_wantFirst (r : ReportId) : r ∈ wantFirst := by
  cases r with
  | part => decide
  | job t => cases t <;> decide
  | want t => cases t <;> decide

/-! ### Events -/

/-- R145: while the reset input is held no event is taken. -/
theorem event_held (order : List ReportId) (f : State → State) (s : State) (h : s.pins.reset = true) :
    s.event order f = s := by
  rw [State.event, if_pos h]

/-- An event acts and then places its reports. -/
theorem event_running (order : List ReportId) (f : State → State) (s : State) (h : s.pins.reset = false) :
    s.event order f = (f { s with raised := [] }).flush order := by
  rw [State.event, if_neg (by simp [h])]

/-- An event that raises no report ends as its action leaves it. -/
theorem happens_quiet (f : State → State) (s t : State) (h : s.pins.reset = false)
    (hf : f { s with raised := [] } = t) (hr : t.raised = []) : happens f s = .next t := by
  rw [happens, event_running _ _ _ h, hf, flush_none _ _ hr]
  cases t; simp_all

/-- An event that does nothing but clear the raised reports. -/
theorem happens_idle (f : State → State) (s : State) (h : s.pins.reset = false)
    (hf : f { s with raised := [] } = { s with raised := [] }) : happens f s = .next { s with raised := [] } :=
  happens_quiet f s _ h hf rfl

/-- An event whose raised reports all are `r`. -/
theorem happens_one (f : State → State) (s t : State) (r : ReportId) (h : s.pins.reset = false)
    (hf : f { s with raised := [] } = t) (hm : ∀ x, x ∈ t.raised ↔ x = r) :
    happens f s = .next { t.submit r with raised := [] } := by
  rw [happens, event_running _ _ _ h, hf, flush_one _ r hm _ tableOrder_nodup (mem_tableOrder r)]

theorem happensWantFirst_one (f : State → State) (s t : State) (r : ReportId) (h : s.pins.reset = false)
    (hf : f { s with raised := [] } = t) (hm : ∀ x, x ∈ t.raised ↔ x = r) :
    happensWantFirst f s = .next { t.submit r with raised := [] } := by
  rw [happensWantFirst, event_running _ _ _ h, hf, flush_one _ r hm _ wantFirst_nodup (mem_wantFirst r)]

theorem happensWantFirst_quiet (f : State → State) (s t : State) (h : s.pins.reset = false)
    (hf : f { s with raised := [] } = t) (hr : t.raised = []) : happensWantFirst f s = .next t := by
  rw [happensWantFirst, event_running _ _ _ h, hf, flush_none _ _ hr]
  cases t; simp_all

/-- Every event ends in a next state that differs from its action's result in the Report Queue's entries and the raised
reports alone. -/
theorem happens_eq (f : State → State) (s : State) (h : s.pins.reset = false) :
    ∃ es, happens f s = .next { f { s with raised := [] } with
      reports := { (f { s with raised := [] }).reports with entries := es }, raised := [] } := by
  obtain ⟨es, he⟩ := flush_eq (f { s with raised := [] }) tableOrder
  exact ⟨es, by rw [happens, event_running _ _ _ h, he]⟩

/-! ### Requests (R170) -/

/-- The take of a head that the command's kind accepts. -/
theorem takeRequest_take (pick : Request → Bool) (serve : Request → State → State) (s : State) (r : Request)
    (rest : List Request) (hi : s.link.handler = .idle) (hl : s.link.replies.length < 4) (hq : s.link.queue = r :: rest)
    (hp : pick r = true) :
    State.takeRequest pick serve s = serve r { s with link := { s.link with queue := rest } } := by
  unfold State.takeRequest
  rw [if_pos ⟨hi, hl⟩, hq]
  simp [hp, State.updLink]

/-- A handler that may not take a request leaves everything as it is. -/
theorem takeRequest_skip (pick : Request → Bool) (serve : Request → State → State) (s : State)
    (h : s.link.handler ≠ .idle ∨ 4 ≤ s.link.replies.length) : State.takeRequest pick serve s = s := by
  unfold State.takeRequest
  rw [if_neg]
  rintro ⟨h1, h2⟩
  rcases h with h | h
  · exact h h1
  · exact absurd h2 (Nat.not_lt.2 h)

/-- R169, R170, R171: what the completion of a request does to the link. -/
theorem respond_eq (x : Link) (req : Request) (st : Status) (data : List Byte) (restart : Bool) :
    x.respond req st data restart = { x with
      cache := (x.cache ++ [(⟨req.seq, replyFrame req.seq req.kind st data⟩ : CachedReply)]).drop
        (x.cache.length + 1 - 4)
      replies := x.replies ++ [⟨replyFrame req.seq req.kind st data, restart⟩]
      handler := if restart then .stopped else .idle } := by
  simp [Link.respond, Link.cacheReply, Link.appendReply, Config.cacheDepth]

/-- R150, R191: a gated request after READY of the right length is served. -/
theorem gated_sized (n : Nat) (f : Request → State → State) (r : Request) (s : State) (h : s.store.startup = .ready)
    (hn : r.payload.length = n) : State.gated (State.sized n f) r s = f r s := by
  rw [State.gated, if_pos h, State.sized, if_pos hn]

end Sys2Proof.Machine
end

