-- ==== Sys2Proof/Laws/Frames.lean ====
section
/-! SUPPORT. What the operations of the search and of the channels (spec/01 to 04) leave as it was, once per operation: the
pins, the link, the Report Queue, the ports, the waiting commands and all of the Setup Store but version floors with their
flag and mark. -/

namespace Sys2Proof.Machine

/-- `t` differs from `s` at most where jobs and their attempts live, and in version floors (R26). -/
structure SearchFrame (s t : State) : Prop where
  pins : t.pins = s.pins
  link : t.link = s.link
  reports : t.reports = s.reports
  ports : t.ports = s.ports
  pending : t.pending = s.pending
  startup : t.store.startup = s.store.startup
  sources : t.store.setup.sources = s.store.setup.sources
  settings : t.store.setup.settings = s.store.setup.settings
  kind : ∀ u, (t.record u).kind = (s.record u).kind
  cls : ∀ u, (t.record u).cls = (s.record u).cls

theorem SearchFrame.refl (s : State) : SearchFrame s s := ⟨rfl, rfl, rfl, rfl, rfl, rfl, rfl, rfl, fun _ => rfl, fun _ => rfl⟩

theorem SearchFrame.trans {s t u : State} (h : SearchFrame s t) (k : SearchFrame t u) : SearchFrame s u :=
  ⟨k.pins.trans h.pins, k.link.trans h.link, k.reports.trans h.reports, k.ports.trans h.ports,
    k.pending.trans h.pending, k.startup.trans h.startup, k.sources.trans h.sources, k.settings.trans h.settings,
    fun x => (k.kind x).trans (h.kind x), fun x => (k.cls x).trans (h.cls x)⟩

/-- An update of jobs, queues, channels, wanted set, lines or raised reports alone. -/
theorem SearchFrame.of_eq {s t : State} (h1 : t.pins = s.pins) (h2 : t.link = s.link) (h3 : t.reports = s.reports)
    (h4 : t.ports = s.ports) (h5 : t.pending = s.pending) (h6 : t.store = s.store) : SearchFrame s t :=
  ⟨h1, h2, h3, h4, h5, by rw [h6], by rw [h6], by rw [h6], fun _ => by simp only [State.record, h6],
    fun _ => by simp only [State.record, h6]⟩

/-- A choice between two framed states is framed. -/
theorem SearchFrame.ite {s a b : State} {p : Prop} [Decidable p] (ha : SearchFrame s a) (hb : SearchFrame s b) :
    SearchFrame s (if p then a else b) := by
  split <;> assumption

theorem updSlot_frame (s : State) (t : Target) (f : JobSlot → JobSlot) : SearchFrame s (s.updSlot t f) :=
  .of_eq rfl rfl rfl rfl rfl rfl

theorem updJob_frame (s : State) (t : Target) (f : Job → Job) : SearchFrame s (s.updJob t f) :=
  .of_eq rfl rfl rfl rfl rfl rfl

theorem updChannel_frame (s : State) (c : Chan) (f : Channel → Channel) : SearchFrame s (s.updChannel c f) :=
  .of_eq rfl rfl rfl rfl rfl rfl

theorem updQueue_frame (s : State) (c : Chan) (f : List Target → List Target) : SearchFrame s (s.updQueue c f) :=
  .of_eq rfl rfl rfl rfl rfl rfl

theorem updLine_frame (s : State) (t : Target) (f : TargetPort → TargetPort) : SearchFrame s (s.updLine t f) :=
  .of_eq rfl rfl rfl rfl rfl rfl

theorem raise_frame (s : State) (r : ReportId) : SearchFrame s (s.raise r) := .of_eq rfl rfl rfl rfl rfl rfl

theorem setWanted_frame (s : State) (w : List Wanted) : SearchFrame s (s.setWanted w) := .of_eq rfl rfl rfl rfl rfl rfl

theorem setJobState_frame (s : State) (t : Target) (x : JobState) : SearchFrame s (s.setJobState t x) := by
  unfold State.setJobState
  split
  · exact .refl s
  · split
    · exact .refl s
    · exact (updJob_frame ..).trans (raise_frame ..)

theorem setCondition_frame (s : State) (t : Target) (x : Condition) : SearchFrame s (s.setCondition t x) := by
  unfold State.setCondition
  split
  · exact .refl s
  · exact (updSlot_frame ..).trans (raise_frame ..)

theorem enterQueue_frame (s : State) (t : Target) : SearchFrame s (s.enterQueue t) := .of_eq rfl rfl rfl rfl rfl rfl

theorem leaveQueues_frame (s : State) (t : Target) : SearchFrame s (s.leaveQueues t) := .of_eq rfl rfl rfl rfl rfl rfl

theorem leaveChannel_frame (s : State) (c : Chan) : SearchFrame s (s.leaveChannel c) := .of_eq rfl rfl rfl rfl rfl rfl

theorem finishJob_frame (s : State) (t : Target) (x : JobState) (o : FinalOutcome) : SearchFrame s (s.finishJob t x o) :=
  .of_eq rfl rfl rfl rfl rfl rfl

theorem recordOutcome_frame (s : State) (t : Target) (o : AttemptOutcome) : SearchFrame s (s.recordOutcome t o) :=
  .of_eq rfl rfl rfl rfl rfl rfl

theorem assertLine_frame (s : State) (t : Target) : SearchFrame s (s.assertLine t) := .of_eq rfl rfl rfl rfl rfl rfl

theorem releaseLine_frame (s : State) (t : Target) : SearchFrame s (s.releaseLine t) := .of_eq rfl rfl rfl rfl rfl rfl

theorem stopLane_frame (s : State) (t : Target) : SearchFrame s (s.stopLane t) := .of_eq rfl rfl rfl rfl rfl rfl

theorem createJob_frame (s : State) (t : Target) (o : Origin) (relaxed : Bool) (only : Option Position) :
    SearchFrame s (s.createJob t o relaxed only) := by
  unfold State.createJob
  dsimp only
  split <;> exact .of_eq rfl rfl rfl rfl rfl rfl

theorem startAttempt_frame (s : State) (c : Chan) (t : Target) (p : Position) (ph : Phase) :
    SearchFrame s (s.startAttempt c t p ph) := .of_eq rfl rfl rfl rfl rfl rfl

theorem startProbe_frame (s : State) (c : Chan) (t : Target) (p : Position) : SearchFrame s (s.startProbe c t p) :=
  (startAttempt_frame ..).trans (setJobState_frame ..)

theorem startFetch_frame (s : State) (c : Chan) (t : Target) (x : Candidate) : SearchFrame s (s.startFetch c t x) := by
  unfold State.startFetch
  have h := (((startAttempt_frame s c t x.position .fetch).trans (updChannel_frame _ c fun y =>
    { y with params := some (streamParams x.header), check := some crc32Init })).trans
    (setJobState_frame _ t .streaming)).trans (raise_frame _ (.job t))
  dsimp only
  split
  · exact h.trans (releaseLine_frame ..)
  · exact h

theorem setClaim_frame (s : State) (c : Chan) (p : Port) (k : Nat) : SearchFrame s (s.setClaim c p k) :=
  .of_eq rfl rfl rfl rfl rfl rfl

theorem refusedAtOnce_frame (s : State) (c : Chan) (t : Target) : SearchFrame s (s.refusedAtOnce c t) :=
  .of_eq rfl rfl rfl rfl rfl rfl

theorem dropHead_frame (s : State) (t : Target) : SearchFrame s (s.dropHead t) := .of_eq rfl rfl rfl rfl rfl rfl

theorem endPass_frame (s : State) (c : Chan) (t : Target) : SearchFrame s (s.endPass c t) := by
  unfold State.endPass
  split
  · exact .refl s
  · dsimp only
    split
    · exact .of_eq rfl rfl rfl rfl rfl rfl
    · split <;> exact .of_eq rfl rfl rfl rfl rfl rfl

theorem probeFirst_frame (c : Chan) (t : Target) (ps : List Position) (s : State) :
    SearchFrame s (State.probeFirst c t ps s) := by
  induction ps generalizing s with
  | nil => exact endPass_frame ..
  | cons p ps ih =>
    unfold State.probeFirst
    split
    · dsimp only
      split
      · exact ((startProbe_frame ..).trans (refusedAtOnce_frame ..)).trans (ih _)
      · exact (startProbe_frame ..).trans (setClaim_frame ..)
    · exact ih s

theorem fetchNewest_frame (c : Chan) (t : Target) (xs : List Candidate) (s : State) :
    SearchFrame s (State.fetchNewest c t xs s) := by
  induction xs generalizing s with
  | nil => exact endPass_frame ..
  | cons x xs ih =>
    unfold State.fetchNewest
    split
    · dsimp only
      split
      · split
        · exact (((((startFetch_frame ..).trans (refusedAtOnce_frame ..)).trans (assertLine_frame ..)).trans
            (updChannel_frame ..)).trans (dropHead_frame ..)).trans (ih _)
        · exact ((((startFetch_frame ..).trans (refusedAtOnce_frame ..)).trans
            (updChannel_frame ..)).trans (dropHead_frame ..)).trans (ih _)
      · exact (startFetch_frame ..).trans (setClaim_frame ..)
    · exact (dropHead_frame ..).trans (ih _)

theorem sweep_frame (c : Chan) (t : Target) (ps : List Position) (s : State) :
    SearchFrame s (State.sweep c t ps s) := by
  induction ps generalizing s with
  | nil =>
    unfold State.sweep
    split
    · exact .refl s
    · exact fetchNewest_frame ..
  | cons p ps ih =>
    unfold State.sweep
    split
    · dsimp only
      split
      · exact ((startProbe_frame ..).trans (refusedAtOnce_frame ..)).trans (ih _)
      · exact (startProbe_frame ..).trans (setClaim_frame ..)
    · exact ih s

theorem moveOn_frame (s : State) (c : Chan) (t : Target) : SearchFrame s (s.moveOn c t) := by
  unfold State.moveOn
  split
  · exact .refl s
  · split
    · exact probeFirst_frame ..
    · split
      · exact fetchNewest_frame ..
      · exact sweep_frame ..

theorem startPass_frame (s : State) (c : Chan) (t : Target) : SearchFrame s (s.startPass c t) := by
  unfold State.startPass
  have h := ((updChannel_frame s c fun x => { x with running := some t, issue := 0, params := none, check := none }).trans
    (updJob_frame _ t fun j => { j with candidates := [] })).trans (setJobState_frame _ t .probing)
  dsimp only
  split
  · exact h
  · split
    · exact h.trans (probeFirst_frame ..)
    · exact h.trans (sweep_frame ..)

theorem cancelHost_frame (s : State) (t : Target) : SearchFrame s (s.cancelHost t) := by
  unfold State.cancelHost
  split
  · exact (setWanted_frame ..).trans (raise_frame ..)
  · exact .refl s

theorem clearAttempt_frame (s : State) (c : Chan) (t : Target) : SearchFrame s (s.clearAttempt c t) :=
  ((updChannel_frame ..).trans (cancelHost_frame ..)).trans (stopLane_frame ..)

theorem endFetch_frame (s : State) (c : Chan) (t : Target) (o : AttemptOutcome) : SearchFrame s (s.endFetch c t o) := by
  have h1 := ((clearAttempt_frame s c t).trans (updChannel_frame _ c fun x => { x with check := none })).trans
    (recordOutcome_frame _ t o)
  have h2 := SearchFrame.ite (p := (s.record t).kind = .lane) (h1.trans (assertLine_frame _ t)) h1
  have h3 := SearchFrame.ite (p := (s.record t).mode = .newest) (h2.trans (dropHead_frame _ t)) h2
  exact .ite (h3.trans (setJobState_frame ..)) (h3.trans (moveOn_frame ..))

theorem endProbe_frame (s : State) (c : Chan) (t : Target) (o : AttemptOutcome) : SearchFrame s (s.endProbe c t o) :=
  ((updChannel_frame ..).trans (recordOutcome_frame ..)).trans (moveOn_frame ..)

theorem endAttempt_frame (s : State) (c : Chan) (t : Target) (o : AttemptOutcome) :
    SearchFrame s (s.endAttempt c t o) := by
  unfold State.endAttempt
  split
  · exact .refl s
  · split <;> first | exact .refl s | exact endProbe_frame .. | exact endFetch_frame ..

theorem abortJob_frame (s : State) (c : Chan) (t : Target) : SearchFrame s (s.abortJob c t) :=
  (leaveChannel_frame ..).trans (finishJob_frame ..)

theorem drained_frame (s : State) (c : Chan) (t : Target) : SearchFrame s (s.drained c t) := by
  unfold State.drained
  split
  · exact .refl s
  · split
    · exact .refl s
    · split
      · exact abortJob_frame ..
      · exact moveOn_frame ..

theorem raiseFloor_frame (s : State) (t : Target) (x : StreamParams) : SearchFrame s (s.raiseFloor t x) := by
  unfold State.raiseFloor
  dsimp only
  split
  · refine ⟨rfl, rfl, rfl, rfl, rfl, rfl, rfl, rfl, fun u => ?_, fun u => ?_⟩ <;>
      simp only [State.record, State.updStore, SetupStore.markChanged, PerTarget.get_set] <;> split <;>
      first | (rename_i h; subst h; rfl) | rfl
  · exact .refl s

theorem deliver_frame (s : State) (c : Chan) (t : Target) : SearchFrame s (s.deliver c t) := by
  unfold State.deliver
  split
  · rename_i j x _ _
    have h := ((((leaveChannel_frame s c).trans (finishJob_frame _ t .delivered .delivered)).trans
      (updSlot_frame _ t fun y => { y with condition := .loaded, descriptor := descriptorOf j x })).trans
      (raiseFloor_frame _ t x)).trans (updLine_frame _ t fun y => { y with done := none })
    dsimp only
    split
    · exact h.trans (releaseLine_frame ..)
    · exact h
  all_goals exact .refl s

theorem takeFault_frame (s : State) (t : Target) : SearchFrame s (s.takeFault t) := by
  unfold State.takeFault
  split
  · split
    · split
      · exact endFetch_frame ..
      · exact .refl s
    all_goals exact .refl s
  · split
    · dsimp only
      split
      · exact (setCondition_frame ..).trans (createJob_frame ..)
      · exact setCondition_frame ..
    · exact .refl s

theorem placeClaim_frame (s : State) (c : Chan) (t : Target) : SearchFrame s (s.placeClaim c t) := by
  unfold State.placeClaim
  split
  · exact .refl s
  · split
    · exact .refl s
    · dsimp only
      split
      · split
        · exact (updChannel_frame ..).trans (endAttempt_frame ..)
        · exact setClaim_frame ..
      · exact .refl s

theorem putSlot_frame (s : State) (c : Chan) (k : Nat) (x : Slot) : SearchFrame s (s.putSlot c k x) :=
  .of_eq rfl rfl rfl rfl rfl rfl

theorem handOff_frame (s : State) (c : Chan) (t : Target) : SearchFrame s (s.handOff c t) := by
  unfold State.handOff
  dsimp only
  split
  · split
    · split
      · exact .refl s
      · exact (updChannel_frame ..).trans (updLine_frame ..)
    · exact .refl s
  all_goals exact .refl s

theorem acceptFirst_frame (s : State) (c : Chan) (t : Target) (data : List Byte) :
    SearchFrame s (s.acceptFirst c t data) := by
  have h2 := ((updChannel_frame s c fun y =>
      { y with params := some (streamParams data), check := some crc32Init }).trans
    (updJob_frame _ t fun j => { j with phase := some .fetch, delivered := 0 })).trans (setJobState_frame _ t .streaming)
  have h3 := SearchFrame.ite (p := (s.record t).kind = .lane) (h2.trans (releaseLine_frame _ t)) h2
  exact .ite ((h3.trans (putSlot_frame ..)).trans (endFetch_frame ..))
    (((h3.trans (putSlot_frame ..)).trans (handOff_frame ..)).trans (placeClaim_frame ..))

theorem acceptNewest_frame (s : State) (c : Chan) (t : Target) (j : Job) (data : List Byte) :
    SearchFrame s (s.acceptNewest c t j data) := by
  unfold State.acceptNewest
  dsimp only
  split
  · exact ((putSlot_frame ..).trans (updJob_frame ..)).trans (moveOn_frame ..)
  · exact (putSlot_frame ..).trans (moveOn_frame ..)

theorem probeData_frame (s : State) (c : Chan) (t : Target) (j : Job) (data : List Byte) :
    SearchFrame s (s.probeData c t j data) := by
  unfold State.probeData
  split
  · exact (putSlot_frame ..).trans (endProbe_frame ..)
  · split
    · exact acceptFirst_frame ..
    · exact acceptNewest_frame ..

theorem fetchData_frame (s : State) (c : Chan) (t : Target) (k : Nat) (data : List Byte) :
    SearchFrame s (s.fetchData c t k data) := by
  unfold State.fetchData
  split
  · exact .refl s
  · split
    · exact (putSlot_frame ..).trans (endFetch_frame ..)
    · split
      · exact (putSlot_frame ..).trans (endFetch_frame ..)
      · exact (putSlot_frame ..).trans (handOff_frame ..)

theorem channelData_frame (s : State) (c : Chan) (k : Nat) (data : List Byte) :
    SearchFrame s (s.channelData c k data) := by
  unfold State.channelData
  split
  · exact .refl s
  · split
    · exact .refl s
    · split <;>
        first
        | exact .refl s
        | exact probeData_frame ..
        | exact fetchData_frame ..
        | exact (putSlot_frame ..).trans (drained_frame ..)

theorem channelFails_frame (s : State) (c : Chan) (k : Nat) (o : AttemptOutcome) :
    SearchFrame s (s.channelFails c k o) := by
  unfold State.channelFails
  split
  · exact .refl s
  · split
    · exact .refl s
    · dsimp only
      split <;>
        first
        | exact .refl s
        | exact (putSlot_frame ..).trans (endAttempt_frame ..)
        | exact (putSlot_frame ..).trans (drained_frame ..)

theorem endStream_frame (s : State) (c : Chan) (t : Target) : SearchFrame s (s.endStream c t) := by
  unfold State.endStream
  split
  · split
    · split
      · exact deliver_frame ..
      · dsimp only
        split
        · exact (setJobState_frame ..).trans (deliver_frame ..)
        · exact (setJobState_frame ..).trans (updLine_frame ..)
    · exact endFetch_frame ..
  all_goals exact .refl s

theorem blockDelivered_frame (s : State) (c : Chan) (t : Target) : SearchFrame s (s.blockDelivered c t) := by
  unfold State.blockDelivered
  dsimp only
  split
  · split
    · exact ((updChannel_frame ..).trans (updJob_frame ..)).trans (endStream_frame ..)
    · exact (((updChannel_frame ..).trans (updJob_frame ..)).trans (handOff_frame ..)).trans (placeClaim_frame ..)
  all_goals exact .refl s

theorem abortRunning_frame (s : State) (c : Chan) (t : Target) : SearchFrame s (s.abortRunning c t) := by
  unfold State.abortRunning
  dsimp only
  split
  · exact (((assertLine_frame ..).trans (clearAttempt_frame ..)).trans (updJob_frame ..)).trans
      ((setJobState_frame ..).trans (raise_frame ..))
  · exact ((assertLine_frame ..).trans (clearAttempt_frame ..)).trans (abortJob_frame ..)

theorem autoStart_frame (s : State) : SearchFrame s s.autoStart := by
  unfold State.autoStart
  generalize allTargets = ts
  induction ts generalizing s with
  | nil => exact .refl s
  | cons t ts ih =>
    rw [List.foldl_cons]
    refine SearchFrame.trans ?_ (ih _)
    split
    · exact createJob_frame ..
    · exact .refl s

end Sys2Proof.Machine
end

