-- ==== Sys2Proof/Laws/Operations.lean ====
section
/-! SUPPORT. What shared operations of the search and of the ports do, once per operation: the submission of a JOB report,
the creation of a job, and the answers to waiting claims. -/

namespace Sys2Proof.Machine

/-- A JOB submission says what the target's record says at that moment. -/
theorem submit_job (s : State) (t : Target) (j : Job) (h : s.job t = some j) :
    s.submit (.job t) = s.withJobReport t j := by
  simp [State.submit, State.content, State.jobItems, h, State.updReports, State.withJobReport, State.withReport]

/-- R76, R93, R97: which read a completion finds. -/
theorem readAt_eq {s : State} {p : Port} {n : Nat} {x : Read} (hp : p = .card ∨ (n = 0 ∧ (p = .flash0 ∨ p = .flash1)))
    (h : (s.ports.get p).reads[n]? = some x) : s.readAt p n = some x := by
  rcases hp with rfl | ⟨rfl, rfl | rfl⟩ <;> simpa [State.readAt] using h

/-- R98: with no claim waiting and no request in service there is nothing to answer with NO PORT. -/
theorem refuseClaims_none (s : State) (p : Port) (ha : s.claims .a p = false) (hb : s.claims .b p = false)
    (hh : s.link.handler = .idle) : s.refuseClaims p = s := by
  simp [State.refuseClaims, State.refuseChannel, ha, hb, State.refusePeek, State.replyPeek, hh]

/-- R7, R9: what the creation of a job makes of the target's record, and that it leaves the Setup Store and the records of
the other targets. -/
theorem createJob_job (s : State) (t : Target) (o : Origin) (relaxed : Bool) (only : Option Position) :
    (s.createJob t o relaxed only).store = s.store
      ∧ (∃ j, (s.createJob t o relaxed only).job t = some j ∧ j.origin = o ∧ j.relaxed = relaxed ∧ j.only = only
          ∧ (j.state = .queued ∨ j.state = .failed) ∧ j.effective = s.effectiveSet t only)
      ∧ ∀ u, u ≠ t → (s.createJob t o relaxed only).job u = s.job u := by
  unfold State.createJob
  dsimp only
  split
  all_goals
    refine ⟨rfl, ?_, fun u hu => ?_⟩ <;>
      simp [State.finishJob, State.raise, State.updJob, State.updSlot, State.job, State.assertLine, State.updLine, newJob,
        State.enterQueue, State.updQueue, PerTarget.get_set, *]

end Sys2Proof.Machine
end

