-- ==== Sys2Proof/Laws/Search.lean ====
section
/-! SUPPORT. What the search does when an attempt ends (spec/02, 04 4.7), once for each way: the relations of Safety say the
state it leaves, and these lemmas that the operations of the model reach it. -/

namespace Sys2Proof.Machine

/-- The state `v` is `u` with reports of target `t` raised beside those of `s`, one or more exactly if `some_`. -/
def State.RaisesJob (s u v : State) (t : Target) (some_ : Prop) : Prop :=
  ∃ l, v = { u with raised := l ++ s.raised } ∧ (∀ x ∈ l, x = .job t) ∧ (l ≠ [] ↔ some_)

/-- Writing the job record that stands leaves the state. -/
theorem withJob_self (s : State) (t : Target) (j : Job) (hj : s.job t = some j) : s.withJob t j = s := by
  have hj' : (s.jobs.get t).job = some j := hj
  have e : s.jobs.set t { s.jobs.get t with job := some j } = s.jobs := by rw [← hj']; cases t <;> rfl
  rw [State.withJob, e]

/-- A second job record replaces the first. -/
theorem withJob_withJob (s : State) (t : Target) (j k : Job) : (s.withJob t j).withJob t k = s.withJob t k := by
  simp [State.withJob]

/-- R41, R42: a probe of an enabled position whose port does not refuse. -/
theorem startProbe_claims (s : State) (c : Chan) (t : Target) (j : Job) (r : Position) (hj : s.job t = some j) :
    s.RaisesJob ({ s with
        channels := s.channels.set c ((s.channels.get c).attempting (s.source r).port) }.withJob t
          { j.attempting r .probe (s.source r) with state := .probing })
      ((s.startProbe c t r).setClaim c (s.source r).port 0) t (j.state ≠ .probing) := by
  have hj' : (s.jobs.get t).job = some j := hj
  unfold State.startProbe State.setJobState
  by_cases h : j.state = .probing
  · refine ⟨[], ?_, by simp, by simp [h]⟩
    simp [State.startAttempt, State.updJob, State.updSlot, State.updChannel, State.job, hj', h, State.setClaim,
      State.withJob, Job.attempting, Channel.attempting]
  · refine ⟨[.job t], ?_, by simp, by simp [h]⟩
    simp [State.startAttempt, State.updJob, State.updSlot, State.updChannel, State.job, hj', h, State.setClaim,
      State.withJob, Job.attempting, Channel.attempting, State.raise]

/-- R44: a fetch of an enabled candidate whose port does not refuse. -/
theorem startFetch_claims (s : State) (c : Chan) (t : Target) (j : Job) (x : Candidate) (hj : s.job t = some j) :
    s.RaisesJob ({ s with
        channels := s.channels.set c { (s.channels.get c).attempting (s.source x.position).port with
          params := some (streamParams x.header), check := some 0xFFFFFFFF#32 }
        lines := s.lines.set t (s.startedLine t) }.withJob t
          { j.attempting x.position .fetch (s.source x.position) with state := .streaming })
      ((s.startFetch c t x).setClaim c (s.source x.position).port 0) t True := by
  have hj' : (s.jobs.get t).job = some j := hj
  unfold State.startFetch State.setJobState
  by_cases h : j.state = .streaming <;> by_cases hk : (s.record t).kind = .lane
  · refine ⟨[.job t], ?_, by simp, by simp⟩
    simp [State.startAttempt, State.updJob, State.updSlot, State.updChannel, State.job, hj', h, hk, State.setClaim,
      State.withJob, Job.attempting, Channel.attempting, State.raise, State.startedLine, State.releaseLine, State.updLine,
      crc32Init]
    rfl
  · refine ⟨[.job t], ?_, by simp, by simp⟩
    simp [State.startAttempt, State.updJob, State.updSlot, State.updChannel, State.job, hj', h, hk, State.setClaim,
      State.withJob, Job.attempting, Channel.attempting, State.raise, State.startedLine, crc32Init]
  · refine ⟨[.job t, .job t], ?_, by simp, by simp⟩
    simp [State.startAttempt, State.updJob, State.updSlot, State.updChannel, State.job, hj', h, hk, State.setClaim,
      State.withJob, Job.attempting, Channel.attempting, State.raise, State.startedLine, State.releaseLine, State.updLine,
      crc32Init]
    rfl
  · refine ⟨[.job t, .job t], ?_, by simp, by simp⟩
    simp [State.startAttempt, State.updJob, State.updSlot, State.updChannel, State.job, hj', h, hk, State.setClaim,
      State.withJob, Job.attempting, Channel.attempting, State.raise, State.startedLine, crc32Init]

/-- R37, R38, R17: the end of a pass. -/
theorem endPass_ended (s : State) (c : Chan) (t : Target) (j : Job) (u : State) (k : Job) (hj : s.job t = some j)
    (h : s.PassEnded c t j u k) : s.RaisesJob u (s.endPass c t) t True := by
  have hj' : (s.jobs.get t).job = some j := hj
  unfold State.PassEnded at h
  unfold State.endPass
  rw [hj]
  dsimp only at h ⊢
  by_cases hl : j.passLimit ≠ 0 ∧ j.passLimit ≤ j.pass
  · rw [if_pos hl] at h ⊢
    obtain ⟨rfl, rfl⟩ := h
    refine ⟨[.job t], ?_, by simp, by simp⟩
    simp [State.finishJob, State.leaveChannel, State.updChannel, State.updJob, State.updSlot, State.raise, hj',
      State.withJob, Channel.left]
  · rw [if_neg hl] at h ⊢
    by_cases hb : (s.record t).backoff = 0
    · rw [if_pos hb] at h ⊢
      obtain ⟨rfl, rfl⟩ := h
      refine ⟨[.job t], ?_, by simp, by simp⟩
      simp [State.leaveChannel, State.updChannel, State.updJob, State.updSlot, State.raise, hj',
        State.withJob, Channel.left, State.enterQueue, State.updQueue, Config.maxPass]
      rfl
    · rw [if_neg hb] at h ⊢
      obtain ⟨rfl, rfl⟩ := h
      refine ⟨[.job t], ?_, by simp, by simp⟩
      simp [State.leaveChannel, State.updChannel, State.updJob, State.updSlot, State.raise, hj',
        Channel.left, Config.maxPass]

/-- R34, R39: a FIRST probe passes over disabled positions. -/
theorem probeFirst_skips (s : State) (c : Chan) (t : Target) (ds ps : List Position) (h : s.Skips ds) :
    State.probeFirst c t (ds ++ ps) s = State.probeFirst c t ps s := by
  induction ds with
  | nil => rfl
  | cons d ds ih =>
    rw [List.cons_append, State.probeFirst, if_neg (by simp [h d (by simp)])]
    exact ih fun p hp => h p (by simp [hp])

/-- R34, R42: the sweep passes over disabled positions. -/
theorem sweep_skips (s : State) (c : Chan) (t : Target) (ds ps : List Position) (h : s.Skips ds) :
    State.sweep c t (ds ++ ps) s = State.sweep c t ps s := by
  induction ds with
  | nil => rfl
  | cons d ds ih =>
    rw [List.cons_append, State.sweep, if_neg (by simp [h d (by simp)])]
    exact ih fun p hp => h p (by simp [hp])

/-- R46: disabled head candidates are dropped, and nothing else changes. -/
theorem fetchNewest_skips (c : Chan) (t : Target) (ds xs : List Candidate) : ∀ (s : State) (j : Job), s.job t = some j →
    j.candidates = ds ++ xs → s.Skips (ds.map (·.position)) →
    State.fetchNewest c t (ds ++ xs) s = State.fetchNewest c t xs (s.withJob t { j with candidates := xs }) := by
  induction ds with
  | nil =>
    intro s j hj hc _
    have e : { j with candidates := xs } = j := by cases j; simp_all
    rw [e, withJob_self s t j hj]; rfl
  | cons d ds ih =>
    intro s j hj hc h
    have hj' : (s.jobs.get t).job = some j := hj
    have hd : (s.source d.position).enabled = false := h d.position (by simp)
    have e : s.dropHead t = s.withJob t { j with candidates := ds ++ xs } := by
      simp [State.dropHead, State.updJob, State.updSlot, State.withJob, hj', hc]
    rw [List.cons_append, State.fetchNewest, if_neg (by simp [hd]), e,
      ih (s.withJob t { j with candidates := ds ++ xs }) { j with candidates := ds ++ xs } (by simp [State.job, State.withJob]) rfl
        (fun p hp => h p (by simp at hp ⊢; exact .inr hp)), withJob_withJob]

/-- The end of a pass does not read the job record that stands, nor the reports raised. -/
theorem State.PassEnded.written {s : State} {c : Chan} {t : Target} {j : Job} {u : State} {k : Job}
    (h : s.PassEnded c t j u k) (z : Job) (l : List ReportId) :
    State.PassEnded { s.withJob t z with raised := l } c t j { u with raised := l } k := by
  unfold State.PassEnded at h ⊢
  dsimp only at h ⊢
  by_cases hl : j.passLimit ≠ 0 ∧ j.passLimit ≤ j.pass
  · rw [if_pos hl] at h ⊢
    obtain ⟨rfl, rfl⟩ := h
    exact ⟨rfl, by simp [State.withJob]⟩
  · rw [if_neg hl] at h ⊢
    by_cases hb : (s.record t).backoff = 0
    · rw [if_pos hb] at h
      rw [if_pos (show (State.record { s.withJob t z with raised := l } t).backoff = 0 from hb)]
      obtain ⟨rfl, rfl⟩ := h
      exact ⟨rfl, by simp [State.withJob, State.settings, State.record]⟩
    · rw [if_neg hb] at h
      rw [if_neg (show ¬ (State.record { s.withJob t z with raised := l } t).backoff = 0 from hb)]
      obtain ⟨rfl, rfl⟩ := h
      exact ⟨rfl, by simp [State.withJob, State.record]⟩

/-- R37: a job whose pass has ended is not PROBING. -/
theorem State.PassEnded.not_probing {s : State} {c : Chan} {t : Target} {j : Job} {u : State} {k : Job}
    (h : s.PassEnded c t j u k) : k.state ≠ .probing := by
  unfold State.PassEnded at h
  dsimp only at h
  split at h
  · obtain ⟨rfl, -⟩ := h; simp
  · split at h <;> obtain ⟨rfl, -⟩ := h <;> simp

/-- R34, R37, R41, R42, R44 to R46: the search moves on as the relation says; a JOB report is raised exactly if the state
changes, or is any but PROBING. -/
theorem moveOn_moved (s : State) (c : Chan) (t : Target) (j : Job) (u : State) (k : Job) (hj : s.job t = some j)
    (h : s.Moved c t j u k) : s.RaisesJob u (s.moveOn c t) t (k.state ≠ j.state ∨ k.state ≠ .probing) := by
  unfold State.moveOn
  rw [hj]
  dsimp only
  rcases h with ⟨ds, r, rs, hm, hr, hd, he, hp, rfl, rfl⟩ | ⟨ds, x, xs, hm, hr, hc, hd, he, hp, hk, hu⟩ | ⟨ho, h⟩
  · have go : s.RaisesJob ({ s with
        channels := s.channels.set c ((s.channels.get c).attempting (s.source r).port) }.withJob t
          { j.attempting r .probe (s.source r) with state := .probing })
      ((s.startProbe c t r).setClaim c (s.source r).port 0) t (JobState.probing ≠ j.state ∨ JobState.probing ≠ .probing) := by
      obtain ⟨l, a, b, d⟩ := startProbe_claims s c t j r hj
      exact ⟨l, a, b, d.trans (by simp [eq_comm])⟩
    cases hmode : (s.record t).mode
    · dsimp only
      rw [hr, probeFirst_skips s c t ds _ hd, State.probeFirst, if_pos he]
      dsimp only
      rw [if_neg (by simp [hp])]
      exact go
    · dsimp only
      have hph : j.phase ≠ some .fetch := hm.resolve_left (by simp [hmode])
      rw [if_neg hph, hr, sweep_skips s c t ds _ hd, State.sweep, if_pos he]
      dsimp only
      rw [if_neg (by simp [hp])]
      exact go
  · have go : s.RaisesJob u (State.fetchNewest c t j.candidates s) t (k.state ≠ j.state ∨ k.state ≠ .probing) := by
      subst hk hu
      rw [hc, fetchNewest_skips c t ds _ s j hj hc hd, State.fetchNewest, if_pos (by exact he)]
      dsimp only
      have hp' : ¬ s.refuses (s.source x.position).port = true := by simp [hp]
      rw [if_neg (by exact hp')]
      obtain ⟨l, a, b, d⟩ := startFetch_claims (s.withJob t { j with candidates := x :: xs }) c t
        { j with candidates := x :: xs } x (by simp [State.job, State.withJob])
      refine ⟨l, a.trans ?_, b, d.trans (by simp)⟩
      simp [State.withJob, State.source, State.startedLine, State.record, Job.attempting]
      rfl
    rw [hm]
    dsimp only
    rcases hr with hr | hr
    · rw [if_pos hr]; exact go
    · by_cases hf : j.phase = some .fetch
      · rw [if_pos hf]; exact go
      · rw [if_neg hf, ← List.append_nil j.rest, sweep_skips s c t _ _ hr, State.sweep, hj]; exact go
  · unfold State.PassOver at ho
    unfold State.passedJob at h
    have hn := h.not_probing
    cases hmode : (s.record t).mode <;> rw [hmode] at ho h <;> dsimp only at ho h ⊢
    · rw [← List.append_nil j.rest, probeFirst_skips s c t _ _ ho, State.probeFirst]
      obtain ⟨l, a, b, d⟩ := endPass_ended s c t j u k hj h
      exact ⟨l, a, b, d.trans (by simp [hn])⟩
    · have go : s.RaisesJob u (State.fetchNewest c t j.candidates s) t (k.state ≠ j.state ∨ k.state ≠ .probing) := by
        obtain ⟨hs, -⟩ := ho
        rw [← List.append_nil j.candidates, fetchNewest_skips c t _ [] s j hj (by simp) hs, State.fetchNewest]
        obtain ⟨l, a, b, d⟩ := endPass_ended (s.withJob t { j with candidates := [] }) c t _
          { u with raised := s.raised } k (by simp [State.job, State.withJob]) (h.written _ s.raised)
        exact ⟨l, a, b, d.trans (by simp [hn])⟩
      obtain ⟨-, hr⟩ := ho
      by_cases hf : j.phase = some .fetch
      · rw [if_pos hf]; exact go
      · rw [if_neg hf, ← List.append_nil j.rest, sweep_skips s c t _ _ (hr.resolve_left hf), State.sweep, hj]; exact go

/-- R13, R48: recording an outcome gives the logged job. -/
theorem recordOutcome_logged (j : Job) (p : Position) (ph : Phase) (o : AttemptOutcome) (hp : j.position = some p)
    (hph : j.phase = some ph) : j.recordOutcome o = j.logged p ph o := by
  simp [Job.recordOutcome, Job.logged, hp, hph, appendLog, Config.logDepth]

/-- The relation does not read the job record that stands, nor the reports raised. -/
theorem State.Moved.written {s : State} {c : Chan} {t : Target} {j : Job} {u : State} {k : Job} (h : s.Moved c t j u k)
    (z : Job) (l : List ReportId) :
    State.Moved { s.withJob t z with raised := l } c t j { u with raised := l } k := by
  rcases h with ⟨ds, r, rs, hm, hr, hd, he, hp, rfl, rfl⟩ | ⟨ds, x, xs, hm, hr, hc, hd, he, hp, rfl, rfl⟩ | ⟨ho, h⟩
  · exact .inl ⟨ds, r, rs, hm, hr, hd, he, hp, rfl, by simp [State.withJob, State.source]⟩
  · exact .inr (.inl ⟨ds, x, xs, hm, hr, hc, hd, he, hp, rfl, by
      simp [State.withJob, State.source, State.startedLine, State.record]; rfl⟩)
  · exact .inr (.inr ⟨ho, h.written z l⟩)

/-- R75, R39, R42: the end of a probe. -/
theorem endProbe_ended (s : State) (c : Chan) (t : Target) (j : Job) (p : Position) (o : AttemptOutcome) (u : State) (k : Job)
    (hj : s.job t = some j) (hp : j.position = some p) (hph : j.phase = some .probe) (h : s.ProbeEnded c t j p o u k) :
    ∃ l, s.endProbe c t o = { u with raised := l ++ s.raised } ∧ (∀ x ∈ l, x = .job t) ∧ .job t ∈ l := by
  have hj' : (s.jobs.get t).job = some j := hj
  have start : (s.updChannel c fun x => { x with claim := none }).recordOutcome t o
      = { State.withJob { s with channels := s.channels.set c { s.channels.get c with claim := none } } t (j.logged p .probe o)
          with raised := .job t :: s.raised } := by
    simp [State.recordOutcome, State.updChannel, State.updJob, State.updSlot, State.raise, hj', State.withJob,
      recordOutcome_logged j p .probe o hp hph]
  obtain ⟨l, e, hl, -⟩ := moveOn_moved _ c t _ _ k (by simp [State.job, State.withJob]) (h.written (j.logged p .probe o) (.job t :: s.raised))
  refine ⟨l ++ [.job t], ?_, ?_, by simp⟩
  · rw [State.endProbe, start, e]; simp
  · intro x hx
    rcases List.mem_append.1 hx with hx | hx
    · exact hl x hx
    · simpa using hx

/-- R120: what a cancellation does, whether or not the target has wanted blocks. -/
theorem cancelHost_eq (s : State) (t : Target) :
    s.cancelHost t = { s with
      wanted := s.wanted.filter fun w => !decide (w.target = t)
      raised := (if s.wanted.any (·.target = t) then [ReportId.want t] else []) ++ s.raised } := by
  unfold State.cancelHost
  split
  · simp [State.setWanted, State.raise]
  · rename_i h
    have hw : s.wanted.filter (fun w => !decide (w.target = t)) = s.wanted := by
      rw [List.filter_eq_self]
      intro w hm
      simpa using List.any_eq_false.1 (Bool.eq_false_iff.2 h) w hm
    rw [hw]
    rfl

/-- R84 steps 1 to 4, R127, R45: the end of a fetch before the search moves on. -/
theorem endFetch_cleared (s : State) (c : Chan) (t : Target) (j : Job) (p : Position) (o : AttemptOutcome)
    (hj : s.job t = some j) (hp : j.position = some p) (hph : j.phase = some .fetch) :
    s.endFetch c t o =
      (let s3 := { (s.cleared c t j.fromHost).withJob t (s.endedJob t j p o) with
        raised := ReportId.job t :: (if s.wanted.any (·.target = t) then [ReportId.want t] else []) ++ s.raised }
      if s3.draining c then s3.setJobState t .draining else s3.moveOn c t) := by
  have hj' : (s.jobs.get t).job = some j := hj
  have hr : s.readsHost t = j.fromHost := by
    simp only [State.readsHost, hj, Job.fromHost]
    cases j.entry <;> rfl
  have key : ∀ a b : State, a = b →
      (if a.draining c then a.setJobState t .draining else a.moveOn c t)
        = if b.draining c then b.setJobState t .draining else b.moveOn c t := by rintro a _ rfl; rfl
  unfold State.endFetch
  refine key _ _ ?_
  have hd : ∀ xs, discard j.fromHost xs = xs.map fun y => if y.isInFlight && !j.fromHost then y else .free := fun _ => rfl
  have hm : (s.record t).mode = .first ∨ (s.record t).mode = .newest := by cases (s.record t).mode <;> simp
  by_cases hk : (s.record t).kind = .lane <;> rcases hm with hm | hm <;>
    simp [State.clearAttempt, hr, hd, cancelHost_eq, State.updChannel, hk, hm, State.raise,
      State.stopLane, TargetPort.stopLane, State.updLine, State.recordOutcome, State.updJob, State.updSlot, hj',
      State.assertLine, State.dropHead, State.withJob, State.cleared, State.endedJob,
      recordOutcome_logged j p .fetch o hp hph]
  all_goals rfl

/-- R84, R83, R45, R127: the end of a fetch. -/
theorem endFetch_ended (s : State) (c : Chan) (t : Target) (j : Job) (p : Position) (o : AttemptOutcome) (u : State) (k : Job)
    (hj : s.job t = some j) (hp : j.position = some p) (hph : j.phase = some .fetch) (h : s.FetchEnded c t j p o u k) :
    ∃ l, s.endFetch c t o
        = { u with raised := l ++ (if s.wanted.any (·.target = t) then [ReportId.want t] else []) ++ s.raised }
      ∧ (∀ x ∈ l, x = .job t) ∧ .job t ∈ l := by
  rw [endFetch_cleared s c t j p o hj hp hph]
  set r := (if s.wanted.any (·.target = t) then [ReportId.want t] else []) ++ s.raised with hr
  have hr2 : ReportId.job t :: (if s.wanted.any (·.target = t) then [ReportId.want t] else []) ++ s.raised
      = .job t :: r := rfl
  unfold State.FetchEnded at h
  dsimp only at h ⊢
  rw [hr2]
  split
  · rename_i hd
    rw [if_pos (show ((s.cleared c t j.fromHost).channels.get c).slots.any (·.isInFlight) = true from hd)] at h
    obtain ⟨rfl, rfl⟩ := h
    by_cases hs : j.state = .draining
    · refine ⟨[.job t], ?_, by simp, by simp⟩
      have hs' : (s.endedJob t j p o).state = .draining := hs
      have he : { s.endedJob t j p o with state := .draining } = s.endedJob t j p o := by rw [← hs']
      rw [he]
      simp [State.setJobState, State.job, State.withJob, hs', hr]
    · refine ⟨[.job t, .job t], ?_, by simp, by simp⟩
      have hs' : ¬ (s.endedJob t j p o).state = .draining := hs
      simp [State.setJobState, State.job, State.withJob, hs', State.raise, State.updJob, State.updSlot, hr]
  · rename_i hd
    rw [if_neg (show ¬ ((s.cleared c t j.fromHost).channels.get c).slots.any (·.isInFlight) = true from hd)] at h
    obtain ⟨l, e, hl, -⟩ := moveOn_moved _ c t _ _ k (by simp [State.job, State.withJob]) (h.written (s.endedJob t j p o) (.job t :: r))
    refine ⟨l ++ [.job t], ?_, ?_, by simp⟩
    · rw [e]; simp [hr]
    · intro x hx
      rcases List.mem_append.1 hx with hx | hx
      · exact hl x hx
      · simpa using hx

end Sys2Proof.Machine
end

