-- ==== Sys2Proof/Tests/Slice0.lean ====
section
/-! SUPPORT. Tests. First the operand checks and words worked out by hand from the spec; then, for every statement with
hypotheses and for each of its clauses, a state and operands that meet them. -/

namespace Sys2Proof.Tests

open Sys2Proof Sys2Proof.Machine

set_option Elab.async false

/-! ### Helpers -/

/-- The next state of an outcome; the state after reset where there is none. -/
def nextOf (o : Host.Outcome State Fault Refusal) : State :=
  match o with
  | .next t => t
  | .fault _ | .refused _ => State.reset

/-- 128 equal bytes. -/
def blk (b : Byte) : List Byte := List.replicate 128 b

/-- An image header with a right header check (R56, R67). -/
def hdr (marker : List Byte) (format kind type flags : Byte) (version len : Nat) : List Byte :=
  let h := marker ++ [format, kind, type, flags] ++ le 4 version ++ le 4 len ++ List.replicate 14 0#8
  h ++ le 2 (crc16 h).toNat

/-- An image header of format 1. -/
def good (kind type flags : Byte) (version len : Nat) : List Byte := hdr imageMarker 1#8 kind type flags version len

/-- T0 is a LANE target and T1 a MEMORY target; every position names FLASH1 at base 0. -/
def setup0 : Setup where
  sources := .all ⟨true, .flash1, 0⟩
  targets := (PerTarget.all { TargetRecord.default with present := true, candidates := 0xFF#8 }).set .t1
    { TargetRecord.default with present := true, kind := .memory, candidates := 0xFF#8 }
  settings := .default

/-- A READY part with its ports READY, its lines asserted and nothing else going on. -/
def up : State :=
  { State.reset with
    pins := { State.reset.pins with reset := false }
    ports := ⟨⟨.ready, 100, [], .a⟩, ⟨.ready, 1000, [], .a⟩, ⟨.ready, 1000, [], .a⟩, ⟨.ready, 0, [], .a⟩⟩
    lines := .all { TargetPort.reset with pulse := none }
    store := { State.reset.store with startup := .ready, setup := setup0 } }

/-- A job of position P0 in a state and a phase, reading from a port. -/
def jobIn (x : JobState) (ph : Phase) (p : Port) : Job :=
  { newJob .host false none 3 0#8 [.p0] with
    state := x, position := some .p0, phase := some ph, tag := 1#8, entry := some ⟨true, p, 0⟩ }

/-- The stream parameters of an image of 97 payload bytes, which has 2 blocks, with the payload check `x`. -/
def params (x : Word32) : StreamParams := { streamParams (good 1#8 1#8 0#8 1 97) with check := x }

/-- The part with a job. -/
def withJob (t : Target) (j : Job) (s : State) : State := s.withJob t j

/-- Channel A running a target's job with some slots. -/
def onA (t : Target) (j : Job) (slots : List Slot) : State :=
  { up.withJob t j with channels := up.channels.set .a ⟨some t, slots, none, 1, some (params 0#32), some crc32Init⟩ }

/-- Four FREE slots. -/
def free4 : List Slot := [.free, .free, .free, .free]

/-- One slot used. -/
def slot1 (x : Slot) : List Slot := [x, .free, .free, .free]

/-- The part with one request waiting. -/
def asked (kind : Byte) (payload : List Byte) (s : State) : State :=
  { s with link := { s.link with queue := [⟨7#8, kind, payload⟩] } }

/-- The part with a request in service. -/
def serving (w : Work) (s : State) : State := { s with link := { s.link with handler := .serving ⟨7#8, 0x0E#8, []⟩ w } }

/-- A request that is the only one waiting may be taken. -/
theorem asked_may (kind : Byte) (payload : List Byte) : (asked kind payload up).MayTake ⟨7#8, kind, payload⟩ [] :=
  ⟨rfl, rfl, Nat.zero_lt_succ 3, rfl⟩

/-- The receiver one byte short of a frame's end. -/
def almost (f : List Byte) (s : State) : State := { s with link := { s.link with receiver := .receiving f.dropLast } }

/-! ### The operand checks -/

theorem test_wf_probe_port : (Instr.flashProbeAnswer .card 5).wf = false ∧ (Instr.flashProbeAnswer .flash1 0).wf = true := by
  decide
theorem test_wf_probe_timeout_port : (Instr.flashProbeTimeout .host).wf = false := by decide
theorem test_wf_startup_length : (Instr.startupReadComplete [0#8]).wf = false := by decide
theorem test_wf_verify_length : (Instr.saveVerifyReadDone []).wf = false := by decide
theorem test_wf_read_place : (Instr.readComplete .flash0 1 (blk 0#8)).wf = false ∧ (Instr.readComplete .card 3 (blk 0#8)).wf = false
    ∧ (Instr.readComplete .host 0 (blk 0#8)).wf = false ∧ (Instr.readComplete .card 2 (blk 0#8)).wf = true := by decide +kernel
theorem test_wf_read_length : (Instr.readComplete .card 0 [1#8]).wf = false := by decide
theorem test_wf_error_place : (Instr.readDeviceError .flash1 1).wf = false ∧ (Instr.readTimerExpiry .host 0).wf = false := by
  decide
theorem test_wf_left : (Instr.trdyDeassert .t0 129).wf = false ∧ (Instr.trdyDeassert .t0 128).wf = true := by decide
theorem test_wf_host_block : (Instr.hostBlockTimerExpiry .t0 65536).wf = false := by decide
theorem test_wf_length_byte : (Instr.frameLengthDiscard 2#8).wf = false ∧ (Instr.frameLengthDiscard 242#8).wf = false
    ∧ (Instr.frameLengthDiscard 1#8).wf = true ∧ (Instr.frameLengthDiscard 243#8).wf = true := by decide

/-! ### Values the spec works out -/

/-- R66: the check of "123456789". -/
theorem test_crc32 : crc32 [0x31#8, 0x32#8, 0x33#8, 0x34#8, 0x35#8, 0x36#8, 0x37#8, 0x38#8, 0x39#8] = 0xCBF43926#32 := by
  decide +kernel
/-- R67: the check of "123456789". -/
theorem test_crc16 : crc16 [0x31#8, 0x32#8, 0x33#8, 0x34#8, 0x35#8, 0x36#8, 0x37#8, 0x38#8, 0x39#8] = 0x29B1#16 := by
  decide +kernel
/-- 3.5: a payload of 40,000 bytes has 313 blocks, the last of 96 bytes; one of 96 bytes fits in block 0. -/
theorem test_block_counts : blockCount 40000 = 313 ∧ blockLength 40000 312 = 96 ∧ blockCount 96 = 1 := by decide
/-- R54: the largest payload fills 65,536 blocks. -/
theorem test_largest_image : blockCount 8388576 = 65536 ∧ blockLength 8388576 65535 = 128 := by decide +kernel

/-- 3.5: target T1. -/
def rec35 : TargetRecord := { TargetRecord.default with imageType := 5#8, maxPayload := 65536, versionFloor := 4#32 }

/-- 3.5, rows a to f, not relaxed and relaxed. -/
theorem test_headers_a_to_f :
    let two := fun h => (judge h rec35 false, judge h rec35 true)
    two (hdr copyMarker 1#8 1#8 5#8 0#8 6 40000) = (some .badMarker, some .badMarker)
    ∧ two ((good 2#8 5#8 0#8 6 40000).take 30 ++ [0#8, 0#8]) = (some .badHeader, some .badHeader)
    ∧ two (hdr imageMarker 2#8 1#8 5#8 0#8 6 40000) = (some .badHeader, some .badHeader)
    ∧ two (good 2#8 5#8 0#8 6 40000) = (some .wrongType, some .wrongType)
    ∧ two (good 1#8 6#8 0#8 6 40000) = (some .wrongType, none)
    ∧ two (good 1#8 5#8 0#8 6 70000) = (some .badLength, some .badLength) := by decide +kernel

/-- 3.5, rows g to k. -/
theorem test_headers_g_to_k :
    let two := fun h => (judge h rec35 false, judge h rec35 true)
    two (good 1#8 5#8 0#8 3 40000) = (some .belowFloor, none)
    ∧ two (good 1#8 6#8 0#8 3 0) = (some .wrongType, some .badLength)
    ∧ two (good 1#8 5#8 3#8 4 40000) = (some .badHeader, some .badHeader)
    ∧ two (good 1#8 255#8 0#8 4 96) = (some .wrongType, none)
    ∧ two (good 1#8 5#8 1#8 4 40000) = (none, none) := by decide +kernel

/-- 11.2: a GET SETTINGS request of sequence 7, byte by byte but for its check. -/
theorem test_frame_bytes : (frameOf 7#8 0x07#8 []).take 4 = [0xA5#8, 0x02#8, 0x07#8, 0x07#8] := by decide +kernel
/-- R172, R193: the reply to an unknown kind 0xF3 has kind 0x80, status 3 and the kind as its data. -/
theorem test_unknown_reply : (replyFrame 9#8 0xF3#8 .unknownKind [0xF3#8]).take 6
    = [0xA5#8, 0x04#8, 0x09#8, 0x80#8, 0x03#8, 0xF3#8] := by decide +kernel
/-- R110, R193: the default settings. -/
theorem test_default_settings : Settings.default.encode
    = [0#8, 0#8, 1#8, 1#8, 3#8, 3#8, 2#8, 3#8, 2#8, 2#8, 2#8, 2#8, 20#8] := by decide
/-- R142: the saved copy has 256 bytes and its check stands at 197. -/
theorem test_copy_layout : (buildCopy 1#32 .default).length = 256 ∧ (copyCovered 1#32 .default).length = 197
    ∧ (buildCopy 1#32 .default).take 10 = [0x9E#8, 0x4D#8, 0x5E#8, 0x70#8, 1#8, 0#8, 0#8, 0#8, 187#8, 0#8] := by
  decide +kernel

/-! ### One step each -/

/-- The table gives no row any bits. -/
theorem test_decode_none : decodeTableWord 8 0 = none ∧ (up.withFetchWord 8 0).pending = [] := by decide
/-- The part idles on an empty queue. -/
theorem test_idle : nextOf (step up) = up := by decide +kernel
/-- The step takes the front of the queue and leaves the rest. -/
theorem test_front_first : (nextOf (step { up with pending := [.cardInsert, .cardRemove] })).pending = [.cardRemove] := by
  decide +kernel
/-- R145: under a held reset input nothing happens. -/
theorem test_held_reset : nextOf (exec .identify State.reset) = State.reset := by decide +kernel
/-- R160: strap levels RATE1 high, RATE0 low give rate code 2, and both flash ports probe. -/
theorem test_start : let t := nextOf (exec (.resetDeassert true false) State.reset)
    t.link.rate = 2 ∧ t.ports.flash0.state = .probing ∧ t.ports.flash1.state = .probing ∧ t.ports.card.state = .empty := by
  decide +kernel
/-- R92: a capacity above the largest is kept as the largest. -/
theorem test_probe_cap :
    (nextOf (exec (.flashProbeAnswer .flash1 20000000)
      { up with ports := up.ports.set .flash1 ⟨.probing, 0, [], .a⟩ })).ports.flash1.capacity = 16777216 := by decide +kernel
/-- R92: an answer that finds no probe running is ignored. -/
theorem test_probe_late : nextOf (exec (.flashProbeAnswer .flash1 5) up) = up := by decide +kernel
/-- R102: with A the last grantee and both waiting, ALTERNATE prefers B. -/
theorem test_alternate : preferred .alternate .a = .b ∧ preferred .alternate .b = .a := by decide
/-- R175, R172: the IDENTIFY reply of sequence 7. -/
theorem test_identify : ((nextOf (exec .identify (asked 0x01#8 [] up))).link.replies.map fun r => r.frame.take 12)
    = [[0xA5#8, 0x0A#8, 0x07#8, 0x81#8, 0x00#8, 0x61#8, 0x3A#8, 0x16#8, 0x04#8, 0x01#8, 0x02#8, 0x00#8]] := by decide +kernel
/-- R191: a LOAD of 4 bytes is answered BAD LENGTH and creates no job. -/
theorem test_long_load : let t := nextOf (exec .load (asked 0x09#8 [0#8, 0#8, 0xFF#8, 0#8] up))
    (t.link.replies.map fun r => r.frame.take 5) = [[0xA5#8, 3#8, 7#8, 0x89#8, 0x04#8]] ∧ t.jobs = up.jobs := by
  decide +kernel
/-- R19: a LOAD of T0 queues its job on channel A and answers QUEUED, no final outcome, tag 0. -/
theorem test_load : let t := nextOf (exec .load (asked 0x09#8 [0#8, 0#8, 0xFF#8] up))
    t.queues.a = [.t0] ∧ (t.link.replies.map fun r => r.frame.take 8)
      = [[0xA5#8, 6#8, 7#8, 0x89#8, 0#8, 0#8, 0xFF#8, 0#8]] := by decide +kernel
/-- R4, R144: a SET SETTINGS that changes nothing leaves the flag as it is. -/
theorem test_same_settings : (nextOf (exec .setSettings (asked 0x08#8 Settings.default.encode up))).store.changed = false := by
  decide +kernel
/-- R163, R165: a gap discard counts, and the count stops at 65,535. -/
theorem test_gap_stops :
    (nextOf (exec .gapTimerExpiry { up with link := { up.link with
      receiver := .receiving [0xA5#8], gap := some 10, gapDiscards := 65535 } })).link.gapDiscards = 65535 := by decide +kernel
/-- R26: with the floor at the image's version no raise happens. -/
theorem test_floor_equal : TargetRecord.floorRises { rec35 with raisePermitted := true }
      (streamParams (good 1#8 5#8 1#8 4 40000)) = false
    ∧ TargetRecord.floorRises { rec35 with raisePermitted := true } (streamParams (good 1#8 5#8 1#8 5 40000)) = true := by
  decide +kernel

/-- R129: a TRDY that deasserts before a byte has begun leaves every byte to send, and one after the last byte none. -/
theorem test_trdy_left : ∀ n ∈ [2, 1, 0],
    let x : TargetPort := ⟨.released, none, .sending, some ⟨0, [1#8, 2#8], false⟩, none, none, false⟩
    ((nextOf (exec (.trdyDeassert .t0 n) { up with lines := up.lines.set .t0 x })).lines.t0.block.map (·.left))
      = some ([1#8, 2#8].drop (2 - n)) := by decide +kernel

/-! ### How a search goes on -/

/-- Whether the search of a job whose attempt has ended goes on, past what is disabled, to a position whose port does not
refuse, or has nothing left in its pass. -/
def goesOn (s : State) (t : Target) (j : Job) : Bool :=
  let fine := fun p => !s.refuses (s.source p).port
  let probe := j.rest.find? fun p => (s.source p).enabled
  let fetch := j.candidates.find? fun x => (s.source x.position).enabled
  match (s.record t).mode with
  | .first => probe.all fine
  | .newest => if j.phase = some .fetch ∨ probe = none then fetch.all fun x => fine x.position else probe.all fine

/-- What stands before the first entry that meets a test does not meet it. -/
theorem split_at {α : Type} {test : α → Bool} {l : List α} {x : α} (h : l.find? test = some x) :
    test x = true ∧ ∃ ds xs, l = ds ++ x :: xs ∧ ∀ d ∈ ds, test d = false := by
  obtain ⟨hx, ds, xs, hl, hd⟩ := List.find?_eq_some_iff_append.1 h
  exact ⟨hx, ds, xs, hl, fun d hm => by simpa using hd d hm⟩

/-- The pass of a job ends in some state. -/
theorem pass_ends (s : State) (c : Chan) (t : Target) (j : Job) : ∃ u k, s.PassEnded c t j u k := by
  unfold State.PassEnded
  dsimp only
  split
  · exact ⟨_, _, rfl, rfl⟩
  · split <;> exact ⟨_, _, rfl, rfl⟩

/-- Such a search moves on to some state. -/
theorem moves_on (s : State) (c : Chan) (t : Target) (j : Job) (h : goesOn s t j = true) : ∃ u k, s.Moved c t j u k := by
  have none_left : ∀ l : List Position, (l.find? fun p => (s.source p).enabled) = none → s.Skips l := fun l hl p hp => by
    simpa using List.find?_eq_none.1 hl p hp
  unfold goesOn at h
  dsimp only at h
  cases hm : (s.record t).mode <;> rw [hm] at h <;> dsimp only at h
  · cases hr : j.rest.find? fun p => (s.source p).enabled with
    | none =>
      obtain ⟨u, k, hp⟩ := pass_ends s c t (s.passedJob t j)
      exact ⟨u, k, .inr (.inr ⟨by simpa [State.PassOver, hm] using none_left _ hr, hp⟩)⟩
    | some r =>
      rw [hr] at h
      obtain ⟨he, ds, rs, hl, hd⟩ := split_at hr
      exact ⟨_, _, .inl ⟨ds, r, rs, .inl hm, hl, hd, he, by simpa using h, rfl, rfl⟩⟩
  · by_cases hf : j.phase = some .fetch ∨ (j.rest.find? fun p => (s.source p).enabled) = none
    · rw [if_pos hf] at h
      have hf' : j.phase = some .fetch ∨ s.Skips j.rest := hf.imp id (none_left _)
      cases hc : j.candidates.find? fun x => (s.source x.position).enabled with
      | none =>
        obtain ⟨u, k, hp⟩ := pass_ends s c t (s.passedJob t j)
        refine ⟨u, k, .inr (.inr ⟨?_, hp⟩)⟩
        simp only [State.PassOver, hm]
        refine ⟨fun p hp => ?_, hf'⟩
        obtain ⟨x, hx, rfl⟩ := List.mem_map.1 hp
        simpa using List.find?_eq_none.1 hc x hx
      | some x =>
        rw [hc] at h
        obtain ⟨he, ds, xs, hl, hd⟩ := split_at hc
        refine ⟨_, _, .inr (.inl ⟨ds, x, xs, hm, hf', hl, fun p hp => ?_, he, by simpa using h, rfl, rfl⟩)⟩
        obtain ⟨y, hy, rfl⟩ := List.mem_map.1 hp
        exact hd y hy
    · rw [if_neg hf] at h
      rw [not_or] at hf
      cases hr : j.rest.find? fun p => (s.source p).enabled with
      | none => exact absurd hr hf.2
      | some r =>
        rw [hr] at h
        obtain ⟨he, ds, rs, hl, hd⟩ := split_at hr
        exact ⟨_, _, .inl ⟨ds, r, rs, .inr hf.1, hl, hd, he, by simpa using h, rfl, rfl⟩⟩

/-- A probe ends in some state. -/
theorem probe_ends (s : State) (c : Chan) (t : Target) (j : Job) (p : Position) (o : AttemptOutcome)
    (h : goesOn s t j = true) : ∃ u k, s.ProbeEnded c t j p o u k := moves_on _ c t (j.logged p .probe o) h

/-- A fetch ends in some state. -/
theorem fetch_ends (s : State) (c : Chan) (t : Target) (j : Job) (p : Position) (o : AttemptOutcome)
    (h : goesOn s t (s.endedJob t j p o) = true) : ∃ u k, s.FetchEnded c t j p o u k := by
  unfold State.FetchEnded
  dsimp only
  split
  · exact ⟨_, _, rfl, rfl⟩
  · exact moves_on (s.cleared c t j.fromHost) c t (s.endedJob t j p o) h

/-- The part with some positions disabled. -/
def disabling (ps : List Position) (s : State) : State :=
  { s with store := { s.store with setup := { s.store.setup with
    sources := ps.foldl (fun x p => x.set p { x.get p with enabled := false }) s.store.setup.sources } } }

/-- The searches of R34 and R46: the next position disabled, every position left disabled, the head candidate disabled, and
every candidate disabled. -/
theorem witness_Moved_skips :
    let j := { jobIn .draining .probe .flash1 with effective := [.p0, .p1, .p3] }
    let k := { jobIn .draining .fetch .flash1 with candidates := [⟨.p1, 6#32, 97, []⟩, ⟨.p3, 5#32, 97, []⟩] }
    let newest := { setup0 with targets := setup0.targets.set .t0 { setup0.targets.get .t0 with mode := .newest } }
    let s := { up with store := { up.store with setup := newest } }
    j.rest = [.p1, .p3] ∧ (disabling [.p1] up).Skips [.p1] ∧ goesOn (disabling [.p1] up) .t0 j = true
      ∧ (disabling [.p1, .p3] up).PassOver .t0 j
      ∧ (disabling [.p1] s).Skips [.p1] ∧ goesOn (disabling [.p1] s) .t0 k = true ∧ (disabling [.p1, .p3] s).PassOver .t0 k := by
  refine ⟨by decide +kernel, ?_, by decide +kernel, ?_, ?_, by decide +kernel, ?_, .inl rfl⟩
  all_goals
    intro p hp
    revert p
    decide +kernel

/-! ### Witnesses: reset and start-up -/

theorem witness_ResetDeassertStartsUp : State.reset.pins.reset = true := rfl

/-- The transmitter sends the reply of a RESTART. -/
def restarting : State := { up with link := { up.link with tx := .reply [1#8], replies := [⟨[1#8], true⟩] } }

theorem witness_RestartReplySetsOffPowerOn : restarting.pins.reset = false ∧ restarting.link.tx = .reply [1#8]
    ∧ restarting.link.replies = [⟨[1#8], true⟩] ∧ (⟨[1#8], true⟩ : Reply).restart = true := by decide +kernel

/-- LOADING SETUP with some results, FLASH0 having 34 blocks. -/
def loading (loads : List (Option (List Byte))) : State :=
  { State.reset with
    pins := up.pins
    ports := up.ports.set .flash0 ⟨.ready, 34, [], .a⟩
    store := { State.reset.store with startup := .loadingSetup, loads := loads } }

theorem witness_StartupReadsAreKept : ∀ loads ∈ [[], [none, none]], let s := loading loads
    s.pins.reset = false ∧ s.store.startup = .loadingSetup ∧ s.store.loads.length < 3
      ∧ (∀ a ∈ [0, 1, 32, 33][s.store.loads.length + 1]?, a < s.ports.flash0.capacity) ∧ (blk 0#8).length = 128 := by
  decide +kernel

/-- A setup in which T0 and T1 start by themselves; T1 has no candidate. -/
def autoSetup : Setup :=
  { setup0 with
    targets := PerTarget.set
      (setup0.targets.set .t0 { setup0.targets.get .t0 with autoStart := true }) .t1
      { setup0.targets.get .t1 with autoStart := true, candidates := 0#8 } }

theorem witness_FourthReadReachesReady :
    let s0 := loading [none, none, none]
    let s := { s0 with store := { s0.store with setup := autoSetup } }
    s.pins.reset = false ∧ s.store.startup = .loadingSetup ∧ s.store.loads.length = 3 ∧ s.jobs = .all .reset
      ∧ s.queues = ⟨[], []⟩ ∧ (blk 0#8).length = 128 ∧ (s.store.judge (s.store.loads ++ [none])).setup = autoSetup
      ∧ (∀ t ∈ [Target.t0, .t1], (autoSetup.targets.get t).present && (autoSetup.targets.get t).autoStart)
      ∧ ((autoSetup.targets.get .t2).present && (autoSetup.targets.get .t2).autoStart) = false
      ∧ s.effectiveSet .t0 none ≠ [] ∧ s.effectiveSet .t1 none = [] := by decide +kernel

/-- The CRC-32 register over bytes as a number, its value worked out at every byte. -/
def crcGo : List Byte → Nat → Nat
  | [], n => n
  | b :: bs, 0 => crcGo bs (crc32Byte 0#32 b).toNat
  | b :: bs, n + 1 => crcGo bs (crc32Byte (BitVec.ofNat 32 (n + 1)) b).toNat

/-- The register worked out byte by byte is the register of R66. -/
theorem crcGo_eq (bs : List Byte) (r : Word32) : crcGo bs r.toNat = (crc32Over r bs).toNat := by
  induction bs generalizing r with
  | nil => rfl
  | cons b bs ih =>
    rw [crc32Over, List.foldl_cons, ← crc32Over, ← ih]
    cases h : r.toNat with
    | zero => rw [crcGo, BitVec.eq_of_toNat_eq (x := r) (y := 0#32) h]
    | succ n => rw [crcGo, ← h, BitVec.ofNat_toNat, BitVec.setWidth_eq]

/-- A copy is valid if its marker and length are right and the register worked out byte by byte agrees. -/
theorem copyValid_of (bs : List Byte) (h1 : bytesAt bs 0 4 = copyMarker) (h2 : ofLE (bytesAt bs 8 2) = 187)
    (h3 : crcGo (bytesAt bs 0 197) crc32Init.toNat = (~~~ word (bytesAt bs 197 4)).toNat) : copyValid bs = true := by
  rw [crcGo_eq] at h3
  have h4 := BitVec.eq_of_toNat_eq h3
  simp [copyValid, h1, h2, Config.bodyBytes, crc32, h4]

/-- The copy of a generation, its check worked out byte by byte. -/
def copyAt (g : Word32) : List Byte :=
  let covered := copyCovered g setup0
  covered ++ le 4 (4294967295 - crcGo covered 4294967295) ++ List.replicate 55 0xFF#8

theorem copyAt_valid_1 : copyValid (copyAt 1#32) = true :=
  copyValid_of _ (by decide +kernel) (by decide +kernel) (by decide +kernel)

theorem copyAt_valid_2 : copyValid (copyAt 2#32) = true :=
  copyValid_of _ (by decide +kernel) (by decide +kernel) (by decide +kernel)

theorem witness_CopyChoiceFollowsTable :
    ((copyAt 1#32).take 128 ++ (copyAt 1#32).drop 128 = copyAt 1#32
      ∧ (copyAt 2#32).take 128 ++ (copyAt 2#32).drop 128 = copyAt 2#32)
      ∧ copyValid (copyAt 1#32) = true ∧ copyValid (copyAt 2#32) = true
      ∧ copyGeneration (copyAt 1#32) < copyGeneration (copyAt 2#32)
      ∧ ¬ copyGeneration (copyAt 2#32) < copyGeneration (copyAt 1#32) ∧ copyValid (blk 0#8 ++ blk 0#8) = false :=
  ⟨⟨List.take_append_drop .., List.take_append_drop ..⟩, copyAt_valid_1, copyAt_valid_2, by decide +kernel,
    by decide +kernel, by decide +kernel⟩

/-! ### Witnesses: source ports -/

/-- The part with one port changed. -/
def portAt (p : Port) (x : PortState) (reads : List Read) (s : State) : State :=
  { s with ports := s.ports.set p { s.ports.get p with state := x, reads := reads } }

/-- A part in PROBING PORTS with the flash ports in two states. -/
def probingPorts (x y : PortState) : State :=
  { portAt .flash0 x [] (portAt .flash1 y [] up) with
    store := { State.reset.store with startup := .probingPorts }, channels := .all .reset }

theorem witness_ProbesEndStartUp :
    (∀ x ∈ [(PortState.probing, PortState.probing), (.probing, .absent), (.ready, .probing), (.absent, .probing)],
      let s := probingPorts x.1 x.2
      s.pins.reset = false ∧ s.store.startup = .probingPorts ∧ s.link.handler = .idle ∧ s.ports.flash0.state = x.1
        ∧ s.ports.flash1.state = x.2 ∧ 0 < s.ports.flash0.capacity ∧ s.channels = .all .reset)
      ∧ ∀ t, (((probingPorts .absent .probing).record t).present && ((probingPorts .absent .probing).record t).autoStart)
          = false := ⟨by decide +kernel, fun t => by cases t <;> decide +kernel⟩

theorem witness_FlashProbeEnds : ∀ p ∈ [Port.flash0, .flash1],
    let s0 := onA .t0 (jobIn .probing .probe p) free4
    let s1 := { s0 with channels := s0.channels.set .a { s0.channels.get .a with claim := some ⟨p, 0⟩ } }
    ∀ x ∈ [up, s1], let s := serving (.rescan p) (portAt p .probing [] x)
      s.pins.reset = false ∧ s.store.startup = .ready ∧ (s.ports.get p).state = .probing
        ∧ s.link.handler = .serving ⟨7#8, 0x0E#8, []⟩ (.rescan p) ∧ s.claims .a p = decide (x ≠ up) := by decide +kernel

theorem witness_CardWakes_insert : let s := portAt .card .empty [] up
    s.pins.reset = false ∧ s.pins.card = false ∧ s.ports.card.state = .empty := by decide +kernel

theorem witness_CardWakes_end : let s := portAt .card .waking [] up
    s.pins.reset = false ∧ s.ports.card.state = .waking ∧ s.claims .a .card = false ∧ s.claims .b .card = false
      ∧ s.link.handler = .idle := by decide +kernel

theorem witness_CardRemoved : let s := { up with pins := { up.pins with card := true } }
    (∀ x ∈ [s, serving .save s, serving (.peek .flash1 9) s], x.pins.reset = false ∧ x.pins.card = true
      ∧ x.ports.card.state ≠ .empty ∧ x.ports.card.reads = [] ∧ x.claims .a .card = false ∧ x.claims .b .card = false
      ∧ (match x.link.handler with
        | .serving _ (.peek .card _) | .serving _ (.rescan .card) => false
        | .serving _ _ | .idle | .stopped => true) = true)
    ∧ ∀ reads ∈ [[], [(⟨.peek, 9⟩ : Read)]], let x := serving (.peek .card 9) (portAt .card .ready reads s)
      x.pins.reset = false ∧ x.pins.card = true ∧ x.ports.card.state ≠ .empty ∧ x.claims .a .card = false
        ∧ x.claims .b .card = false ∧ (∀ r ∈ x.ports.card.reads, r.reader = .peek)
        ∧ x.link.handler = .serving ⟨7#8, 0x0E#8, []⟩ (.peek .card 9) := by decide +kernel

/-- Channel A running T0's job, with its read of block 0 outstanding on CARD. -/
def cardReading (j : Job) : State :=
  portAt .card .ready [⟨.chan .a 0, 0⟩]
    { onA .t0 j (slot1 (.inFlight 0)) with pins := { up.pins with card := true } }

/-- The same part after the card is gone, before the job is told. -/
def cardGone (j : Job) : State :=
  portAt .card .empty []
    { onA .t0 j free4 with pins := { up.pins with card := false } }

theorem witness_CardRemovedUnderReads :
    (∀ j ∈ [jobIn .probing .probe .card, jobIn .streaming .fetch .card, jobIn .draining .fetch .card,
        { jobIn .draining .fetch .card with abortPending := true }],
      let s := cardReading j
      s.pins.reset = false ∧ s.pins.card = true ∧ s.ports.card.state = .ready ∧ s.ports.card.reads = [⟨.chan .a 0, 0⟩]
        ∧ s.claims .b .card = false ∧ s.link.handler = .idle ∧ (s.channels.get .a).running = some .t0 ∧ s.job .t0 = some j
        ∧ j.entry = some ⟨true, .card, 0⟩ ∧ s.wanted.any (·.target = .t0) = false ∧ j.position = some .p0)
    ∧ (∃ u k, (cardGone (jobIn .probing .probe .card)).ProbeEnded .a .t0 (jobIn .probing .probe .card) .p0 .noPort u k)
    ∧ (∃ u k, (cardGone (jobIn .streaming .fetch .card)).FetchEnded .a .t0 (jobIn .streaming .fetch .card) .p0 .noPort u k)
    ∧ ∃ u k, (cardGone (jobIn .draining .fetch .card)).Moved .a .t0 (jobIn .draining .fetch .card) u k :=
  ⟨by decide +kernel, probe_ends _ _ _ _ _ _ (by decide +kernel), fetch_ends _ _ _ _ _ _ (by decide +kernel),
    moves_on _ _ _ _ (by decide +kernel)⟩

/-- T0's attempt, a probe or a fetch, waits on a port for the end of its wake or probe. -/
def claimWaits (q : Port) (x : PortState) (j : Job) : State :=
  let s := onA .t0 j free4
  portAt q x []
    { s with
      pins := { up.pins with card := true }
      channels := s.channels.set .a { s.channels.get .a with claim := some ⟨q, 0⟩ } }

/-- The same after the claim is gone and the port has a new state. -/
def claimGone (q : Port) (x : PortState) (card : Bool) (s : State) : State :=
  { s with
    pins := { s.pins with card := card }
    ports := s.ports.set q { s.ports.get q with state := x, capacity := 0 }
    channels := s.channels.set .a { s.channels.get .a with claim := none, issue := (s.channels.get .a).issue + 1 }
    raised := [] }

theorem attempts_end (s : State) (q : Port) (h1 : goesOn s .t0 (jobIn .probing .probe q) = true)
    (h2 : goesOn s .t0 (s.endedJob .t0 (jobIn .streaming .fetch q) .p0 .noPort) = true) :
    ∀ j ∈ [jobIn .probing .probe q, jobIn .streaming .fetch q], ∃ u k, s.AttemptEnded .a .t0 j .p0 .noPort u k := by
  intro j hj
  simp at hj
  rcases hj with rfl | rfl
  · obtain ⟨u, k, h⟩ := probe_ends s .a .t0 _ .p0 .noPort h1
    exact ⟨u, k, .inr ⟨rfl, rfl, h⟩⟩
  · obtain ⟨u, k, h⟩ := fetch_ends s .a .t0 _ .p0 .noPort h2
    exact ⟨u, k, .inl ⟨rfl, rfl, h⟩⟩

theorem witness_WaitingClaimRefused : ∀ j ∈ [jobIn .probing .probe .card, jobIn .streaming .fetch .card],
    let s := claimWaits .card .waking j
    s.pins.reset = false ∧ s.ports.card.state = .waking ∧ s.ports.card.reads = [] ∧ s.link.handler = .idle
      ∧ (s.channels.get .a).claim = some ⟨.card, 0⟩ ∧ s.claims .b .card = false ∧ (s.channels.get .a).running = some .t0
      ∧ s.job .t0 = some j ∧ j.position = some .p0 ∧ s.wanted.any (·.target = .t0) = false ∧ s.pins.card = true := by
  decide +kernel

theorem witness_WaitingClaimRefused_ends : ∀ i : JobState × Phase, ∀ x ∈ [(PortState.faulted, true), (.empty, false)],
    ∀ j ∈ [jobIn .probing .probe .card, jobIn .streaming .fetch .card],
      ∃ u k, (claimGone .card x.1 x.2 (claimWaits .card .waking (jobIn i.1 i.2 .card))).AttemptEnded .a .t0 j .p0 .noPort u k := by
  intro i x hx
  simp at hx
  rcases hx with rfl | rfl <;> exact attempts_end _ .card rfl rfl

theorem witness_RescanRefusesClaims : ∀ x ∈ [(Port.flash0, PortState.probing), (.flash1, .probing), (.card, .waking)],
    ∀ j ∈ [jobIn .probing .probe x.1, jobIn .streaming .fetch x.1],
      let s := serving (.rescan x.1) (claimWaits x.1 x.2 j)
      s.pins.reset = false ∧ s.store.startup = .ready ∧ s.link.handler = .serving ⟨7#8, 0x0E#8, []⟩ (.rescan x.1)
        ∧ (s.ports.get x.1).reads = [] ∧ (s.channels.get .a).claim = some ⟨x.1, 0⟩ ∧ s.claims .b x.1 = false
        ∧ (s.channels.get .a).running = some .t0 ∧ s.job .t0 = some j ∧ j.position = some .p0
        ∧ s.wanted.any (·.target = .t0) = false ∧ (s.ports.get x.1).state = x.2 ∧ s.pins.card = true := by
  decide +kernel

theorem witness_RescanRefusesClaims_ends : ∀ i : JobState × Phase,
    ∀ x ∈ [(Port.flash0, PortState.probing, PortState.absent, true), (.flash1, .probing, .absent, true),
      (.card, .waking, .faulted, true), (.card, .waking, .empty, false)],
    ∀ j ∈ [jobIn .probing .probe x.1, jobIn .streaming .fetch x.1],
      ∃ u k, (claimGone x.1 x.2.2.1 x.2.2.2 (serving (.rescan x.1) (claimWaits x.1 x.2.1 (jobIn i.1 i.2 x.1)))).AttemptEnded .a
        .t0 j .p0 .noPort u k := by
  intro i x hx
  simp at hx
  rcases hx with rfl | rfl | rfl | rfl <;> exact attempts_end _ _ rfl rfl

theorem witness_RescanIsAnswered_flash : ∀ p ∈ [Port.flash0, .flash1],
    let s := serving (.rescan p) (portAt p .probing [] up)
    s.pins.reset = false ∧ s.link.handler = .serving ⟨7#8, 0x0E#8, []⟩ (.rescan p) ∧ 0 < 5 ∧ s.store.startup = .ready
      ∧ (s.ports.get p).state = .probing ∧ s.claims .a p = false ∧ s.claims .b p = false := by decide +kernel

theorem witness_RescanIsAnswered_card :
    let s := serving (.rescan .card) (portAt .card .waking [] { up with pins := { up.pins with card := true } })
    s.pins.reset = false ∧ s.link.handler = .serving ⟨7#8, 0x0E#8, []⟩ (.rescan .card) ∧ s.ports.card.state = .waking
      ∧ s.claims .a .card = false ∧ s.claims .b .card = false ∧ s.pins.card = true ∧ s.ports.card.reads = [] := by
  decide +kernel

/-- Channel A streaming to T0 with a claim waiting on a port. -/
def claiming (p : Port) (k : Nat) : State :=
  let s := onA .t0 (jobIn .streaming .fetch p) free4
  { s with channels := s.channels.set .a { s.channels.get .a with claim := some ⟨p, k⟩ } }

theorem witness_GrantStartsDeviceRead : ∀ p ∈ [Port.flash0, .flash1, .card], let s := claiming p 99
    s.pins.reset = false ∧ p ≠ .host ∧ (s.ports.get p).state = .ready ∧ s.store.save = none
      ∧ (s.ports.get p).reads.length < s.settings.limits.get p ∧ s.grantee p = some .a
      ∧ (s.channels.get .a).running = some .t0 ∧ (s.channels.get .a).claim = some ⟨p, 99⟩
      ∧ s.job .t0 = some (jobIn .streaming .fetch p) ∧ (jobIn .streaming .fetch p).entry = some ⟨true, p, 0⟩
      ∧ 0 + 99 < (s.ports.get p).capacity := by decide +kernel

theorem witness_GrantWantsHostBlock : let s := claiming .host 1
    s.pins.reset = false ∧ s.ports.host.state = .ready ∧ s.wanted.length < s.settings.limits.host
      ∧ s.grantee .host = some .a ∧ (s.channels.get .a).running = some .t0
      ∧ (s.channels.get .a).claim = some ⟨.host, 1⟩ ∧ s.job .t0 = some (jobIn .streaming .fetch .host)
      ∧ (jobIn .streaming .fetch .host).entry = some ⟨true, .host, 0⟩ := by decide +kernel

/-- A save whose claim waits. -/
def save0 (g : SaveStage) : Save := ⟨setup0, .a, 1#32, false, g⟩

/-- The part with a save in service. -/
def saving (g : SaveStage) (s : State) : State :=
  serving .save { s with store := { s.store with save := some (save0 g) } }

theorem witness_GrantIsWithheld :
    ((portAt .flash1 .absent [] up).ports.get .flash1).state ≠ .ready
      ∧ up.settings.limits.get .card ≤ (portAt .card .ready [⟨.chan .a 0, 0⟩, ⟨.chan .a 1, 1⟩] up).outstanding .card
      ∧ (saving .waiting up).store.save.isSome = true
      ∧ (up.claims .a .flash0 = false ∧ up.claims .b .flash0 = false ∧ up.link.handler = .idle) ∧ up.pins.reset = false := by
  decide +kernel

/-- Both channels waiting on FLASH1 under a mode, after a grant to `last`. -/
def bothWait (m : ArbMode) (last : Chan) : State :=
  { up with
    channels := ⟨{ Channel.reset with claim := some ⟨.flash1, 5⟩ }, { Channel.reset with claim := some ⟨.flash1, 0⟩ }⟩
    ports := up.ports.set .flash1 ⟨.ready, 1000, [], last⟩
    store := { up.store with setup := { setup0 with settings := { Settings.default with modes := .all m } } } }

theorem witness_ArbitrationFollowsMode : ∀ m ∈ [ArbMode.aFirst, .bFirst, .alternate], ∀ c ∈ [Chan.a, .b],
    let s := bothWait m c
    s.claims .a .flash1 = true ∧ s.claims .b .flash1 = true ∧ s.settings.modes.get .flash1 = m
      ∧ (s.ports.get .flash1).lastGrantee = c := by decide +kernel

theorem witness_ArbitrationFollowsMode_one :
    (claiming .card 0).claims .a .card = true ∧ (claiming .card 0).claims .b .card = false ∧ up.claims .a .card = false
      ∧ ({ up with channels := up.channels.set .b { Channel.reset with claim := some ⟨.card, 0⟩ } } : State).claims .b .card
        = true := by decide +kernel

theorem witness_GrantServesPeek : ∀ p ∈ [Port.flash0, .flash1, .card], let s := serving (.peek p 9) up
    s.pins.reset = false ∧ (s.ports.get p).state = .ready ∧ s.store.save = none
      ∧ s.outstanding p < s.settings.limits.get p ∧ s.claims .a p = false ∧ s.claims .b p = false
      ∧ s.peekClaim p = some 9 ∧ 9 < (s.ports.get p).capacity
      ∧ (serving (.peek p 16777215) up).peekClaim p = some 16777215 ∧ (s.ports.get p).capacity ≤ 16777215 := by
  decide +kernel

theorem witness_PeekReadIsAnswered : ∀ x ∈ [(Port.card, 1), (.flash0, 0), (.flash1, 0)],
    let s := serving (.peek x.1 9) (portAt x.1 .ready (List.replicate (x.2 + 1) ⟨.peek, 9⟩) up)
    s.pins.reset = false ∧ (x.1 = .card ∨ (x.2 = 0 ∧ (x.1 = .flash0 ∨ x.1 = .flash1)))
      ∧ (s.ports.get x.1).reads[x.2]? = some ⟨.peek, 9⟩
      ∧ s.link.handler = .serving ⟨7#8, 0x0E#8, []⟩ (.peek x.1 9) ∧ s.store.save = none ∧ (blk 0#8).length = 128 := by
  decide +kernel

/-- Channel A probing position P0 on CARD for T0, searching in a mode, with the read of block 0 outstanding. -/
def probing0 (m : SearchMode) (j : Job) : State :=
  { portAt .card .ready [⟨.chan .a 0, 0⟩] (onA .t0 j (slot1 (.inFlight 0))) with
    store := { up.store with setup := { setup0 with
      targets := setup0.targets.set .t0 { setup0.targets.get .t0 with mode := m } } } }

/-- T0's job probing P0, with `more` of its effective set left and a pass limit. -/
def probeJob (more : List Position) (limit : Nat) : Job :=
  { jobIn .probing .probe .card with effective := .p0 :: more, passLimit := limit }

/-- A block 0 that T0 accepts. -/
def image0 : List Byte := good 1#8 1#8 0#8 1 97 ++ List.replicate 96 0x5A#8

theorem witness_ProbeIsJudged : ∀ m ∈ [SearchMode.first, .newest], ∀ more ∈ [[], [Position.p3]],
    let j := probeJob more 1
    let s := probing0 m j
    s.pins.reset = false ∧ (s.ports.get .card).reads[0]? = some ⟨.chan .a 0, 0⟩ ∧ (s.channels.get .a).running = some .t0
      ∧ (s.channels.get .a).slots = [.inFlight 0, .free, .free, .free] ∧ (s.channels.get .a).claim = none
      ∧ s.job .t0 = some j ∧ j.state = .probing ∧ j.entry = some ⟨true, .card, 0⟩ ∧ s.refuses .card = false
      ∧ j.position = some .p0 ∧ j.phase = some .probe ∧ image0.length = 128 ∧ (s.record .t0).mode = m
      ∧ judge image0 (s.record .t0) j.relaxed = none ∧ judge (blk 0#8) (s.record .t0) j.relaxed = some .badMarker
      ∧ j.rest = more ∧ (s.source .p3).enabled = true ∧ s.refuses (s.source .p3).port = false
      ∧ j.passLimit ≠ 0 ∧ j.passLimit ≤ j.pass
      ∧ (insertCandidate (candidateOf .p0 image0) j.candidates).map (·.position) = [.p0] ∧ (s.source .p0).enabled = true
      ∧ s.refuses (s.source .p0).port = false := by decide +kernel

theorem witness_ProbeIsJudged_ends : ∀ m ∈ [SearchMode.first, .newest], ∀ more ∈ [[], [Position.p3]], ∀ limit ∈ [0, 1],
    let j := probeJob more limit
    let s := probing0 m j
    ∃ u v, State.ProbeEnded { s with
      ports := s.ports.set .card { s.ports.get .card with reads := (s.ports.get .card).reads.eraseIdx 0 }
      raised := []
      channels := s.channels.set .a { s.channels.get .a with slots := [.free, .free, .free, .free] } } .a .t0 j .p0
        .badMarker u v := by
  intro m hm more hr limit hl
  refine probe_ends _ _ _ _ _ _ ?_
  revert m more limit
  decide +kernel

theorem witness_ProbeIsJudged_moves : ∀ more ∈ [[], [Position.p3]],
    let j := { probeJob more 1 with candidates := [⟨.p0, 1#32, 97, image0.take 32⟩] }
    let s := probing0 .newest (probeJob more 1)
    ∃ u v, State.Moved { s with
      ports := s.ports.set .card { s.ports.get .card with reads := (s.ports.get .card).reads.eraseIdx 0 }
      raised := []
      channels := s.channels.set .a { s.channels.get .a with slots := [.free, .free, .free, .free] } } .a .t0 j u v := by
  intro more hr
  refine moves_on _ _ _ _ ?_
  revert more
  decide +kernel

/-- A streaming job of T0 on FLASH1 with a read of block 1 outstanding. -/
def fetching (first : Slot) : State :=
  portAt .flash1 .ready [⟨.chan .a 1, 1⟩] (onA .t0 (jobIn .streaming .fetch .flash1) [first, .inFlight 1, .free, .free])

theorem witness_FetchedBlockIsHeld : ∀ x ∈ [Slot.held 0 (blk 1#8), .delivering 0 (blk 1#8)], let s := fetching x
    let slots := setSlot 1 (.held 1 (blk 2#8)) (s.channels.get .a).slots
    s.pins.reset = false ∧ (s.ports.get .flash1).reads[0]? = some ⟨.chan .a 1, 1⟩ ∧ (s.channels.get .a).running = some .t0
      ∧ s.job .t0 = some (jobIn .streaming .fetch .flash1) ∧ (jobIn .streaming .fetch .flash1).state = .streaming
      ∧ (jobIn .streaming .fetch .flash1).entry = some ⟨true, .flash1, 0⟩
      ∧ (s.channels.get .a).params = some (params 0#32) ∧ (blk 2#8).length = 128
      ∧ (slots.any (·.isDelivering) = true
        ∨ (slots.any (·.isDelivering) = false ∧ heldBlock 0 slots = some (blk 1#8))) := by decide +kernel

theorem witness_FetchedBlockIsHeld_first :
    let s := portAt .card .ready [⟨.chan .a 0, 0⟩] (onA .t0 (jobIn .streaming .fetch .card) (slot1 (.inFlight 0)))
    s.pins.reset = false ∧ (s.ports.get .card).reads[0]? = some ⟨.chan .a 0, 0⟩ ∧ (s.channels.get .a).running = some .t0
      ∧ s.job .t0 = some (jobIn .streaming .fetch .card) ∧ (jobIn .streaming .fetch .card).entry = some ⟨true, .card, 0⟩
      ∧ (s.channels.get .a).params = some (params 0#32) ∧ image0.take 32 = (params 0#32).header ∧ image0.length = 128
      ∧ heldBlock 0 (setSlot 0 (.held 0 image0) (s.channels.get .a).slots) = some image0 := by decide +kernel

/-- A DRAINING job of T0 on CARD with a read of block 0 outstanding. -/
def drainingOn (p : Port) (slots : List Slot) : State :=
  portAt p .ready [⟨.chan .a 0, 0⟩] (onA .t0 { jobIn .draining .fetch p with abortPending := true } slots)

theorem witness_DrainEndsAborted : ∀ slots ∈ [slot1 (.inFlight 0), [.inFlight 0, .inFlight 1, .free, .free]],
    let s := drainingOn .card slots
    let j := { jobIn .draining .fetch .card with abortPending := true }
    s.pins.reset = false ∧ (s.ports.get .card).reads[0]? = some ⟨.chan .a 0, 0⟩ ∧ (s.channels.get .a).running = some .t0
      ∧ s.job .t0 = some j ∧ j.state = .draining ∧ j.abortPending = true ∧ (blk 0#8).length = 128
      ∧ (setSlot 0 .free (s.channels.get .a).slots).any (·.isInFlight) = decide (slots ≠ slot1 (.inFlight 0)) := by
  decide +kernel

/-! ### Witnesses: channels and jobs -/

/-- T1's job waits in channel A's queue; `m` is T1's search mode. -/
def waiting (m : SearchMode) : State :=
  let j := { jobIn .queued .probe .flash1 with position := none, phase := none, entry := none }
  let s := withJob .t1 j up
  { s with
    queues := ⟨[.t1, .t0], []⟩
    store := { s.store with setup := { setup0 with
      targets := setup0.targets.set .t1 { setup0.targets.get .t1 with mode := m } } } }

theorem witness_ChannelTakesHead_skips : ∀ m ∈ [SearchMode.first, .newest],
    let j := { jobIn .queued .probe .flash1 with position := none, phase := none, entry := none, effective := [.p0, .p3] }
    let s := { waiting m with jobs := (waiting m).jobs.set .t1 { (waiting m).jobs.get .t1 with job := some j } }
    s.pins.reset = false ∧ (s.channels.get .a).running = none ∧ s.queues.get .a = [.t1, .t0] ∧ s.job .t1 = some j
      ∧ j.state ≠ .probing ∧ j.effective = [.p0] ++ .p3 :: []
      ∧ (∀ p ∈ [Position.p0], ((disabling [.p0] s).source p).enabled = false)
      ∧ ((disabling [.p0] s).source .p3).enabled = true
      ∧ (disabling [.p0] s).refuses ((disabling [.p0] s).source .p3).port = false
      ∧ (∀ p ∈ j.effective, ((disabling [.p0, .p3] s).source p).enabled = false) := by decide +kernel

theorem witness_ChannelTakesHead : ∀ m ∈ [SearchMode.first, .newest], let s := waiting m
    let j := { jobIn .queued .probe .flash1 with position := none, phase := none, entry := none }
    s.pins.reset = false ∧ (s.channels.get .a).running = none ∧ s.queues.get .a = [.t1, .t0] ∧ s.job .t1 = some j
      ∧ j.state ≠ .probing ∧ j.effective = [.p0] ∧ (s.source .p0).enabled = true
      ∧ s.refuses (s.source .p0).port = false := by decide +kernel

theorem witness_BackoffEndsQueued : let s0 := withJob .t0 (jobIn .backoff .probe .flash1) up
    let s := { s0 with jobs := s0.jobs.set .t0 { s0.jobs.get .t0 with backoff := some 1000 } }
    s.pins.reset = false ∧ s.job .t0 = some (jobIn .backoff .probe .flash1)
      ∧ (jobIn .backoff .probe .flash1).state = .backoff ∧ (s.jobs.get .t0).backoff.isSome = true := by decide +kernel

/-- Classes 0, 1 and 2 for T0, T1 and the others. -/
def cls3 : Target → Fin 4
  | .t0 => 0
  | .t1 => 1
  | .t2 | .t3 | .t4 | .t5 => 2

theorem witness_QueueEntryByClass : [Target.t0, .t1, .t1, .t2].Pairwise (fun a b => cls3 a ≤ cls3 b) := by decide +kernel

theorem witness_CandidateOrderKept :
    let before := fun a b : Candidate =>
      b.version < a.version ∨ (a.version = b.version ∧ positionNum a.position < positionNum b.position)
    let l : List Candidate := [⟨.p0, 6#32, 97, []⟩, ⟨.p3, 6#32, 97, []⟩, ⟨.p1, 2#32, 97, []⟩]
    l.Pairwise before ∧ ∀ y ∈ l, y.position ≠ (⟨.p2, 6#32, 97, []⟩ : Candidate).position := by decide +kernel

/-- Block `k` of T's stream on its lane, the job having delivered `k` blocks. -/
def sending (t : Target) (x : JobState) (k : Nat) (check : Word32) (slots : List Slot) : State :=
  let s := onA t { jobIn x .fetch .flash1 with delivered := k } slots
  { s with
    channels := s.channels.set .a { s.channels.get .a with params := some (params check) }
    lines := s.lines.set t { s.lines.get t with lane := .sending, block := some ⟨k, [], false⟩ } }

theorem witness_DeliveredBlockAdvances : ∀ x ∈ [Slot.held 1 (blk 2#8), .inFlight 1, .free],
    let s := sending .t0 .streaming 0 0#32 [.delivering 0 (blk 1#8), x, .free, .free]
    let j := { jobIn .streaming .fetch .flash1 with delivered := 0 }
    let slots := setSlot 0 .free (s.channels.get .a).slots
    s.pins.reset = false ∧ (s.lines.get .t0).mayComplete = true ∧ s.channelOf .t0 = some .a ∧ s.job .t0 = some j
      ∧ j.state = .streaming ∧ j.entry = some ⟨true, .flash1, 0⟩ ∧ s.refuses .flash1 = false
      ∧ (s.channels.get .a).params = some (params 0#32)
      ∧ deliveringBlock (s.channels.get .a).slots = some (blk 1#8) ∧ 0 + 1 ≠ (params 0#32).count
      ∧ (heldBlock 1 slots = none ∨ (heldBlock 1 slots = some (blk 2#8) ∧ slots.any (·.isDelivering) = false)) := by
  decide +kernel

/-- The check of one payload byte 0x55 after a register of all ones. -/
def lastCheck : Word32 := ~~~ crc32Over crc32Init (payloadOf 97 1 (blk 0x55#8))

theorem witness_MemoryTargetDelivered : let s := sending .t1 .streaming 1 lastCheck (slot1 (.delivering 1 (blk 0x55#8)))
    let j := { jobIn .streaming .fetch .flash1 with delivered := 1 }
    s.pins.reset = false ∧ (s.lines.get .t1).mayComplete = true ∧ s.channelOf .t1 = some .a ∧ s.job .t1 = some j
      ∧ (s.record .t1).kind = .memory ∧ (s.channels.get .a).params = some (params lastCheck)
      ∧ (s.channels.get .a).check = some crc32Init ∧ deliveringBlock (s.channels.get .a).slots = some (blk 0x55#8)
      ∧ 1 + 1 = (params lastCheck).count ∧ j.position = some .p0 ∧ j.entry = some ⟨true, .flash1, 0⟩
      ∧ ~~~ crc32Over crc32Init (payloadOf (params lastCheck).length 1 (blk 0x55#8)) = (params lastCheck).check := by
  decide +kernel

theorem witness_LaneTargetDelivered : let s := sending .t0 .streaming 1 lastCheck (slot1 (.delivering 1 (blk 0x55#8)))
    let j := { jobIn .streaming .fetch .flash1 with delivered := 1 }
    s.pins.reset = false ∧ (s.lines.get .t0).mayComplete = true ∧ s.channelOf .t0 = some .a ∧ s.job .t0 = some j
      ∧ (s.record .t0).kind = .lane ∧ (s.channels.get .a).params = some (params lastCheck)
      ∧ (s.channels.get .a).check = some crc32Init ∧ deliveringBlock (s.channels.get .a).slots = some (blk 0x55#8)
      ∧ 1 + 1 = (params lastCheck).count ∧ j.position = some .p0 ∧ j.entry = some ⟨true, .flash1, 0⟩
      ∧ ~~~ crc32Over crc32Init (payloadOf (params lastCheck).length 1 (blk 0x55#8)) = (params lastCheck).check := by
  decide +kernel

theorem witness_LaneTargetFinishes : let s := sending .t0 .streaming 1 lastCheck (slot1 (.delivering 1 (blk 0x55#8)))
    let j := { jobIn .streaming .fetch .flash1 with delivered := 1 }
    s.pins.reset = false ∧ (s.lines.get .t0).mayComplete = true ∧ s.channelOf .t0 = some .a ∧ s.job .t0 = some j
      ∧ (s.record .t0).kind = .lane ∧ j.state = .streaming ∧ (s.channels.get .a).params = some (params lastCheck)
      ∧ (s.channels.get .a).check = some crc32Init ∧ deliveringBlock (s.channels.get .a).slots = some (blk 0x55#8)
      ∧ 1 + 1 = (params lastCheck).count
      ∧ ~~~ crc32Over crc32Init (payloadOf (params lastCheck).length 1 (blk 0x55#8)) = (params lastCheck).check := by
  decide +kernel

/-! ### Witnesses: ends of attempts -/

/-- Channel A running T0's job `j`, its read of block `b` outstanding on FLASH1, with the other slots it uses. -/
def reading (j : Job) (b : Nat) (more : List Slot) : State :=
  portAt .flash1 .ready [⟨.chan .a b, b⟩] (onA .t0 j (.inFlight b :: more))

/-- The same part after that read has left the port and its slot. -/
def readGone (j : Job) (b : Nat) (more : List Slot) : State :=
  let s := reading j b more
  { s with
    ports := s.ports.set .flash1 { s.ports.get .flash1 with reads := (s.ports.get .flash1).reads.eraseIdx 0 }
    channels := s.channels.set .a { s.channels.get .a with slots := setSlot b .free (s.channels.get .a).slots }
    raised := [] }

theorem witness_ReadErrorEndsAttempt :
    (∀ j ∈ [jobIn .probing .probe .flash1, jobIn .streaming .fetch .flash1], let s := reading j 0 [.free, .free, .free]
      s.pins.reset = false ∧ (s.ports.get .flash1).reads[0]? = some ⟨.chan .a 0, 0⟩
        ∧ (s.channels.get .a).running = some .t0 ∧ s.job .t0 = some j ∧ j.entry = some ⟨true, .flash1, 0⟩
        ∧ s.wanted.any (·.target = .t0) = false ∧ j.position = some .p0)
    ∧ (∃ u k, (readGone (jobIn .probing .probe .flash1) 0 [.free, .free, .free]).ProbeEnded .a .t0
        (jobIn .probing .probe .flash1) .p0 .readError u k)
    ∧ ∀ more ∈ [[.free, .free, .free], [Slot.inFlight 1, .held 2 (blk 1#8), .free]],
        ∃ u k, (readGone (jobIn .streaming .fetch .flash1) 0 more).FetchEnded .a .t0 (jobIn .streaming .fetch .flash1) .p0
          .readError u k := by
  refine ⟨by decide +kernel, probe_ends _ _ _ _ _ _ (by decide +kernel), fun more h => fetch_ends _ _ _ _ _ _ ?_⟩
  revert more
  decide +kernel

theorem witness_ReadBeyondCapacityEnds :
    let s := claiming .flash1 1000
    let x := (s.channels.get .a).granted 1000
    let j := jobIn .streaming .fetch .flash1
    (s.pins.reset = false ∧ (s.ports.get .flash1).state = .ready
      ∧ (s.ports.get .flash1).reads.length < s.settings.limits.get .flash1 ∧ s.grantee .flash1 = some .a
      ∧ (s.channels.get .a).running = some .t0 ∧ (s.channels.get .a).claim = some ⟨.flash1, 1000⟩ ∧ s.job .t0 = some j
      ∧ j.entry = some ⟨true, .flash1, 0⟩ ∧ (s.ports.get .flash1).capacity ≤ 0 + 1000
      ∧ s.wanted.any (·.target = .t0) = false ∧ j.position = some .p0 ∧ j.phase = some .fetch)
    ∧ ∃ u k, State.FetchEnded { s with
        ports := s.ports.set .flash1 { s.ports.get .flash1 with lastGrantee := .a }
        channels := s.channels.set .a { x with slots := setSlot 1000 .free x.slots }
        raised := [] } .a .t0 j .p0 .readError u k :=
  ⟨by decide +kernel, fetch_ends _ _ _ _ _ _ (by decide +kernel)⟩

theorem witness_ChangedHeaderEndsFetch : let j := jobIn .streaming .fetch .flash1
    let s := reading j 0 [.inFlight 1, .free, .free]
    (s.pins.reset = false ∧ (s.ports.get .flash1).reads[0]? = some ⟨.chan .a 0, 0⟩
      ∧ (s.channels.get .a).running = some .t0 ∧ s.job .t0 = some j ∧ j.state = .streaming
      ∧ j.entry = some ⟨true, .flash1, 0⟩ ∧ s.wanted.any (·.target = .t0) = false
      ∧ (s.channels.get .a).params = some (params 0#32) ∧ (blk 0#8).length = 128
      ∧ (blk 0#8).take 32 ≠ (params 0#32).header ∧ j.position = some .p0 ∧ j.phase = some .fetch)
    ∧ ∃ u k, (readGone j 0 [.inFlight 1, .free, .free]).FetchEnded .a .t0 j .p0 .changed u k :=
  ⟨by decide +kernel, fetch_ends _ _ _ _ _ _ (by decide +kernel)⟩

theorem witness_ChecksumEndsFetch : let s := sending .t1 .streaming 1 0#32 (slot1 (.delivering 1 (blk 0x55#8)))
    let j := { jobIn .streaming .fetch .flash1 with delivered := 1 }
    (s.pins.reset = false ∧ (s.lines.get .t1).mayComplete = true ∧ s.channelOf .t1 = some .a ∧ s.job .t1 = some j
      ∧ j.state = .streaming ∧ (s.channels.get .a).params = some (params 0#32)
      ∧ (s.channels.get .a).check = some crc32Init ∧ deliveringBlock (s.channels.get .a).slots = some (blk 0x55#8)
      ∧ 1 + 1 = (params 0#32).count
      ∧ ~~~ crc32Over crc32Init (payloadOf (params 0#32).length 1 (blk 0x55#8)) ≠ (params 0#32).check
      ∧ s.wanted.any (·.target = .t1) = false ∧ j.position = some .p0 ∧ j.phase = some .fetch)
    ∧ ∃ u k, State.FetchEnded { s with
        pins := { s.pins with tdone := s.pins.tdone.set .t1 false }
        channels := s.channels.set .a { s.channels.get .a with slots := setSlot 1 .free (s.channels.get .a).slots }
        raised := [] } .a .t1 { j with delivered := 2 } .p0 .checksum u k :=
  ⟨by decide +kernel, fetch_ends _ _ _ _ _ _ (by decide +kernel)⟩

theorem witness_TargetFaultEndsAttempt : ∀ x ∈ [JobState.streaming, .finishing],
    let j := jobIn x .fetch .flash1
    let s0 := onA .t0 j (slot1 (.inFlight 0))
    let s := { s0 with lines := s0.lines.set .t0 { s0.lines.get .t0 with line := .released, faultPending := true } }
    (s.pins.reset = false ∧ s.channelOf .t0 = some .a ∧ s.job .t0 = some j ∧ (j.state = .streaming ∨ j.state = .finishing)
      ∧ s.wanted.any (·.target = .t0) = false ∧ j.position = some .p0 ∧ j.phase = some .fetch
      ∧ s.pins.tflt.get .t0 = false ∧ (s.lines.get .t0).line = .released ∧ (s.lines.get .t0).faultPending = true)
    ∧ (∃ u k, State.FetchEnded { s with pins := { s.pins with tflt := s.pins.tflt.set .t0 true }, raised := [] } .a .t0 j .p0
        .targetFault u k)
    ∧ ∃ u k, State.FetchEnded { s with
        lines := s.lines.set .t0 { s.lines.get .t0 with faultPending := false }, raised := [] } .a .t0 j .p0 .targetFault
          u k := by
  intro x hx
  refine ⟨?_, fetch_ends _ _ _ _ _ _ ?_, fetch_ends _ _ _ _ _ _ ?_⟩ <;> revert x <;> decide +kernel

theorem witness_RefusedClaimEndsAttempt_take :
    let s := portAt .flash1 .absent [] (waiting .first)
    let j := { jobIn .queued .probe .flash1 with position := none, phase := none, entry := none }
    let j1 := { (j.attempting .p0 .probe (s.source .p0)) with candidates := [], state := .probing }
    (s.pins.reset = false ∧ (s.channels.get .a).running = none ∧ (s.channels.get .a).claim = none
      ∧ s.queues.get .a = [.t1, .t0] ∧ s.job .t1 = some j ∧ j.state = .queued ∧ j.effective = [] ++ .p0 :: []
      ∧ (s.source .p0).enabled = true ∧ s.refuses (s.source .p0).port = true ∧ j1.rest = [])
    ∧ ∃ u k, State.ProbeEnded { s with
        queues := s.queues.set .a [.t0]
        channels := s.channels.set .a { s.channels.get .a with running := some .t1, issue := 1, params := none, check := none }
        raised := [] } .a .t1 j1 .p0 .noPort u k :=
  ⟨by decide +kernel, probe_ends _ _ _ _ _ _ (by decide +kernel)⟩

/-- The parameters of a stream of six blocks, five of which are claimed. -/
def six : StreamParams := streamParams (good 1#8 1#8 0#8 1 640)

theorem witness_RefusedClaimEndsAttempt_next :
    let s0 := sending .t0 .streaming 0 0#32 [.delivering 0 (blk 1#8), .inFlight 1, .inFlight 2, .inFlight 3]
    let s := portAt .flash1 .absent [] { s0 with
      channels := s0.channels.set .a { s0.channels.get .a with params := some six, issue := 4 } }
    let j := { jobIn .streaming .fetch .flash1 with delivered := 0 }
    let y := { s.channels.get .a with slots := setSlot 0 .free (s.channels.get .a).slots }
    let j1 := { j with delivered := 1 }
    (s.pins.reset = false ∧ (s.lines.get .t0).mayComplete = true ∧ s.channelOf .t0 = some .a ∧ s.job .t0 = some j
      ∧ j.state = .streaming ∧ j.entry = some ⟨true, .flash1, 0⟩ ∧ s.refuses .flash1 = true
      ∧ (s.channels.get .a).params = some six ∧ deliveringBlock (s.channels.get .a).slots = some (blk 1#8)
      ∧ 0 + 1 ≠ six.count ∧ s.wanted.any (·.target = .t0) = false ∧ j.position = some .p0 ∧ j.phase = some .fetch
      ∧ heldBlock 1 y.slots = none ∧ mayClaim j1 y = true)
    ∧ ∃ u k, State.FetchEnded { s with
        pins := { s.pins with tdone := s.pins.tdone.set .t0 false }
        channels := s.channels.set .a { y with issue := y.issue + 1 }
        raised := [] } .a .t0 j1 .p0 .noPort u k :=
  ⟨by decide +kernel, fetch_ends _ _ _ _ _ _ (by decide +kernel)⟩

theorem witness_DrainMovesOn : ∀ slots ∈ [slot1 (.inFlight 0), [.inFlight 0, .inFlight 1, .free, .free]],
    let j := jobIn .draining .fetch .flash1
    let s := portAt .flash1 .ready [⟨.chan .a 0, 0⟩] (onA .t0 j slots)
    (s.pins.reset = false ∧ (s.ports.get .flash1).reads[0]? = some ⟨.chan .a 0, 0⟩ ∧ (s.channels.get .a).running = some .t0
      ∧ s.job .t0 = some j ∧ j.state = .draining ∧ j.abortPending = false ∧ (blk 0#8).length = 128
      ∧ (setSlot 0 .free (s.channels.get .a).slots).any (·.isInFlight) = decide (slots ≠ slot1 (.inFlight 0)))
    ∧ ∃ u k, State.Moved { s with
        ports := s.ports.set .flash1 { s.ports.get .flash1 with reads := (s.ports.get .flash1).reads.eraseIdx 0 }
        channels := s.channels.set .a { s.channels.get .a with slots := setSlot 0 .free (s.channels.get .a).slots }
        raised := [] } .a .t0 j u k := by
  intro slots hs
  refine ⟨?_, moves_on _ _ _ _ ?_⟩ <;> revert slots <;> decide +kernel

/-! ### Witnesses: Target Ports -/

/-- The part with T0's port changed. -/
def lineAt (x : TargetPort) : State := { up with lines := up.lines.set .t0 x }

/-- A Target Port with a block of two bytes in a line and a lane state, its pulse timer running or not. -/
def portIn (line : LineState) (lane : LaneState) (pulse : Bool) : TargetPort :=
  ⟨line, if pulse then some 1 else none, lane, some ⟨0, [1#8, 2#8], true⟩, none, none, false⟩

theorem witness_LineInputsAndPulse :
    up.pins.reset = false ∧ ((lineAt (portIn .released .waitingReady false)).lines.get .t0).lane = .waitingReady
      ∧ (((lineAt (portIn .released .sending false)).lines.get .t0).lane = .sending
        ∧ ((lineAt (portIn .released .sending false)).lines.get .t0).block = some ⟨0, [1#8, 2#8], true⟩
        ∧ ∀ left ∈ [0, 1, 2], left ≤ [1#8, 2#8].length)
      ∧ (((lineAt (portIn .asserted .idle true)).lines.get .t0).pulse.isSome = true
        ∧ ((lineAt (portIn .asserted .idle true)).lines.get .t0).line ≠ .releasing)
      ∧ (∀ x ∈ [LaneState.idle, .waitingRelease], ((lineAt (portIn .releasing x true)).lines.get .t0).pulse.isSome = true
        ∧ ((lineAt (portIn .releasing x true)).lines.get .t0).line = .releasing) := by decide +kernel

theorem witness_PulseKeepsAssertionLong :
    (portIn .released .idle false).line = .released ∧ (portIn .asserted .idle true).line ≠ .released
      ∧ (portIn .asserted .idle true).pulse.isSome = true ∧ (portIn .asserted .idle false).line ≠ .released
      ∧ (portIn .asserted .idle false).pulse = none ∧ (portIn .asserted .idle false).lane ≠ .waitingRelease := by
  decide +kernel

theorem witness_ReadyTimeoutDrains : ∀ t ∈ [Target.t0, .t1],
    let s0 := sending t .streaming 0 0#32 [.delivering 0 (blk 1#8), .inFlight 1, .free, .free]
    let s := { s0 with lines := s0.lines.set t { s0.lines.get t with lane := .waitingReady, ready := some 500 } }
    let j := { jobIn .streaming .fetch .flash1 with delivered := 0 }
    s.pins.reset = false ∧ (s.lines.get t).ready.isSome = true ∧ s.channelOf t = some .a ∧ s.job t = some j
      ∧ j.state = .streaming ∧ j.position = some .p0 ∧ j.phase = some .fetch ∧ j.entry = some ⟨true, .flash1, 0⟩
      ∧ s.wanted.any (·.target = t) = false ∧ (s.channels.get .a).slots.any (·.isInFlight) = true := by decide +kernel

/-- T0's job in FINISHING in its third pass, its done timer running. -/
def finishing : State :=
  let s := onA .t0 { jobIn .finishing .fetch .flash1 with pass := 3 } free4
  { s with lines := s.lines.set .t0 { s.lines.get .t0 with line := .released, done := some 1000 } }

theorem witness_DoneTimeoutFails : let s := finishing
    let j := { jobIn .finishing .fetch .flash1 with pass := 3 }
    s.pins.reset = false ∧ (s.lines.get .t0).done.isSome = true ∧ s.channelOf .t0 = some .a ∧ s.job .t0 = some j
      ∧ j.state = .finishing ∧ j.position = some .p0 ∧ j.phase = some .fetch ∧ s.wanted.any (·.target = .t0) = false
      ∧ (s.record .t0).kind = .lane ∧ (s.record .t0).mode = .first ∧ j.rest = [] ∧ (s.channels.get .a).slots = free4
      ∧ j.passLimit ≠ 0 ∧ j.passLimit ≤ j.pass := by decide +kernel

theorem witness_TdoneDelivers : let s := finishing
    let j := { jobIn .finishing .fetch .flash1 with pass := 3 }
    s.pins.reset = false ∧ s.job .t0 = some j ∧ (s.record .t0).kind = .lane ∧ s.channelOf .t0 = some .a
      ∧ j.state = .finishing ∧ (s.channels.get .a).params = some (params 0#32) ∧ j.position = some .p0
      ∧ j.entry = some ⟨true, .flash1, 0⟩ := by decide +kernel

theorem witness_TdoneDelivers_otherwise : let s := sending .t0 .streaming 0 0#32 free4
    s.pins.reset = false ∧ s.job .t0 = some { jobIn .streaming .fetch .flash1 with delivered := 0 }
      ∧ (s.record .t0).kind = .lane ∧ (jobIn .streaming .fetch .flash1).state ≠ .finishing := by decide +kernel

/-- T0 LOADED by a delivered job, its line RELEASED; `reload` is its reload on fault. -/
def loaded (reload : Bool) (sources : PerPosition SourceEntry) : State :=
  let s := withJob .t0 { jobIn .delivered .fetch .flash1 with final := some .delivered } up
  { s with
    jobs := s.jobs.set .t0 { s.jobs.get .t0 with condition := .loaded }
    lines := s.lines.set .t0 { s.lines.get .t0 with line := .released, faultPending := true }
    store := { s.store with setup := { setup0 with
      sources := sources, targets := setup0.targets.set .t0 { setup0.targets.get .t0 with reload := reload } } } }

theorem witness_FaultAfterDelivery : let s := loaded false setup0.sources
    let j := { jobIn .delivered .fetch .flash1 with final := some .delivered }
    s.pins.reset = false ∧ s.job .t0 = some j ∧ j.state.isFinal = true ∧ (s.jobs.get .t0).condition = .loaded
      ∧ ((s.record .t0).present && (s.record .t0).reload) = false ∧ s.pins.tflt.get .t0 = false
      ∧ (s.lines.get .t0).line = .released ∧ (s.lines.get .t0).faultPending = true := by decide +kernel

theorem witness_FaultReloads : ∀ on ∈ [true, false], let s := loaded true (.all ⟨on, .flash1, 0⟩)
    let j := { jobIn .delivered .fetch .flash1 with final := some .delivered }
    s.pins.reset = false ∧ s.job .t0 = some j ∧ j.state.isFinal = true ∧ (s.jobs.get .t0).condition = .loaded
      ∧ (s.record .t0).present = true ∧ (s.record .t0).reload = true ∧ s.pins.tflt.get .t0 = false
      ∧ (s.lines.get .t0).line = .released ∧ (s.effectiveSet .t0 none = []) = (on = false) := by decide +kernel

/-! ### Witnesses: host stream and link -/

/-- A DATA frame of T0's attempt 1 for block 1, of one byte. -/
def dataFrame1 : List Byte := frameOf 0#8 0x20#8 [0#8, 1#8, 1#8, 0#8, 0x55#8]

theorem witness_DataFrameMatchesWanted_none : let s := almost dataFrame1 up
    let f : Frame := ⟨0#8, 0x20#8, [0#8, 1#8, 1#8, 0#8, 0x55#8]⟩
    s.pins.reset = false ∧ s.link.receiver.classify (dataFrame1.getLastD 0#8) = .data f
      ∧ parseData f.payload = some ⟨.t0, 1#8, 1, [0x55#8]⟩ ∧ s.wanted = [] := by decide +kernel

/-- The same key with two bytes. -/
def dataFrame2 : List Byte := frameOf 0#8 0x20#8 [0#8, 1#8, 1#8, 0#8, 0x55#8, 0x55#8]

/-- T0 streaming from HOST with block 1 wanted, block 0 on its lane. -/
def hostFetch : State :=
  let s := onA .t0 (jobIn .streaming .fetch .host) [.delivering 0 (blk 1#8), .inFlight 1, .free, .free]
  { s with wanted := [⟨.t0, 1#8, 1, 2000⟩] }

theorem witness_DataFrameMatchesWanted_hit : let s := almost dataFrame1 hostFetch
    let f : Frame := ⟨0#8, 0x20#8, [0#8, 1#8, 1#8, 0#8, 0x55#8]⟩
    let j := jobIn .streaming .fetch .host
    s.pins.reset = false ∧ s.link.receiver.classify (dataFrame1.getLastD 0#8) = .data f
      ∧ parseData f.payload = some ⟨.t0, 1#8, 1, [0x55#8]⟩
      ∧ s.wanted.any (fun w => decide (w.target = .t0 ∧ w.tag = 1#8 ∧ w.block = 1)) = true ∧ s.channelOf .t0 = some .a
      ∧ s.job .t0 = some j ∧ j.state = .streaming ∧ j.entry = some ⟨true, .host, 0⟩
      ∧ (s.channels.get .a).params = some (params 0#32) ∧ [0x55#8].length = blockLength (params 0#32).length 1
      ∧ (setSlot 1 (.held 1 [0x55#8]) (s.channels.get .a).slots).any (·.isDelivering) = true := by decide +kernel

theorem witness_WrongLengthEndsFetch_fetch : let s := almost dataFrame2 hostFetch
    let f : Frame := ⟨0#8, 0x20#8, [0#8, 1#8, 1#8, 0#8, 0x55#8, 0x55#8]⟩
    let j := jobIn .streaming .fetch .host
    let hit := fun w : Wanted => decide (w.target = .t0 ∧ w.tag = 1#8 ∧ w.block = 1)
    (s.pins.reset = false ∧ s.link.receiver.classify (dataFrame2.getLastD 0#8) = .data f
      ∧ parseData f.payload = some ⟨.t0, 1#8, 1, [0x55#8, 0x55#8]⟩ ∧ s.channelOf .t0 = some .a ∧ s.job .t0 = some j
      ∧ j.entry = some ⟨true, .host, 0⟩ ∧ j.position = some .p0 ∧ s.wanted.any hit = true ∧ j.state = .streaming
      ∧ j.phase = some .fetch ∧ (s.channels.get .a).params = some (params 0#32)
      ∧ [0x55#8, 0x55#8].length ≠ blockLength (params 0#32).length 1)
    ∧ ∃ u k, State.FetchEnded { s with
        link := { s.link with receiver := .hunting, gap := none }
        reports := s.reports.endQuiet
        wanted := s.wanted.filter fun w => !hit w
        channels := s.channels.set .a
          { s.channels.get .a with slots := setSlot 1 .free (s.channels.get .a).slots }
        raised := [] } .a .t0 j .p0 .streamError u k :=
  ⟨by decide +kernel, fetch_ends _ _ _ _ _ _ (by decide +kernel)⟩

/-- A DATA frame of T0's attempt 1 for block 0: the header alone of an image whose block 0 has 128 bytes. -/
def dataFrame0 : List Byte := frameOf 0#8 0x20#8 (0#8 :: 1#8 :: 0#8 :: 0#8 :: image0.take 32)

theorem witness_WrongLengthEndsFetch_probe : let j := jobIn .probing .probe .host
    let s := almost dataFrame0 { onA .t0 j (slot1 (.inFlight 0)) with wanted := [⟨.t0, 1#8, 0, 2000⟩] }
    let f : Frame := ⟨0#8, 0x20#8, 0#8 :: 1#8 :: 0#8 :: 0#8 :: image0.take 32⟩
    let y := streamParams (image0.take 32)
    let hit := fun w : Wanted => decide (w.target = .t0 ∧ w.tag = 1#8 ∧ w.block = 0)
    (s.pins.reset = false ∧ s.link.receiver.classify (dataFrame0.getLastD 0#8) = .data f
      ∧ parseData f.payload = some ⟨.t0, 1#8, 0, image0.take 32⟩ ∧ s.channelOf .t0 = some .a ∧ s.job .t0 = some j
      ∧ j.entry = some ⟨true, .host, 0⟩ ∧ j.position = some .p0 ∧ s.wanted.any hit = true ∧ j.state = .probing
      ∧ (s.record .t0).mode = .first ∧ judge (image0.take 32) (s.record .t0) j.relaxed = none
      ∧ (image0.take 32).length ≠ blockLength y.length 0)
    ∧ ∃ u k, State.FetchEnded { s with
        link := { s.link with receiver := .hunting, gap := none }
        reports := s.reports.endQuiet
        wanted := s.wanted.filter fun w => !hit w
        channels := s.channels.set .a
          { s.channels.get .a with
            slots := setSlot 0 .free (s.channels.get .a).slots, params := some y, check := some 0xFFFFFFFF#32 }
        lines := s.lines.set .t0 (s.startedLine .t0)
        raised := [] } .a .t0 { j with state := .streaming, phase := some .fetch, delivered := 0 } .p0 .streamError u k :=
  ⟨by decide +kernel, fetch_ends _ _ _ _ _ _ (by decide +kernel)⟩

/-- A malformed DATA frame: three fields and no data byte. -/
def dataFrameShort : List Byte := frameOf 0#8 0x20#8 [0#8, 1#8, 1#8, 0#8]

theorem witness_DataFrameMatches_malformed : let s := almost dataFrameShort up
    s.pins.reset = false ∧ s.link.receiver.classify (dataFrameShort.getLastD 0#8) = .data ⟨0#8, 0x20#8, [0#8, 1#8, 1#8, 0#8]⟩
      ∧ parseData [0#8, 1#8, 1#8, 0#8] = none := by decide +kernel

/-- An image of one payload byte, whose block 0 has 33 bytes. -/
def image1 : List Byte := good 1#8 1#8 0#8 1 1 ++ [0x5A#8]

/-- 33 bytes that are no header. -/
def blank : List Byte := List.replicate 33 0#8

/-- A DATA frame of T0's attempt 1 for block 0. -/
def dataFrameWhole (data : List Byte) : List Byte := frameOf 0#8 0x20#8 (0#8 :: 1#8 :: 0#8 :: 0#8 :: data)

/-- T0's job `j` on HOST with block 0 wanted, the search of T0 in a mode. -/
def hostBlock0 (m : SearchMode) (j : Job) : State :=
  { onA .t0 j (slot1 (.inFlight 0)) with
    channels := up.channels.set .a ⟨some .t0, slot1 (.inFlight 0), none, 1, some (streamParams image1), some crc32Init⟩
    wanted := [⟨.t0, 1#8, 0, 2000⟩]
    store := { up.store with setup := { setup0 with
      targets := setup0.targets.set .t0 { setup0.targets.get .t0 with mode := m } } } }

theorem witness_DataFrameMatches_first : let j := jobIn .streaming .fetch .host
    let s := almost (dataFrameWhole image1) (hostBlock0 .newest j)
    let slots := setSlot 0 (.held 0 image1) (s.channels.get .a).slots
    s.pins.reset = false ∧ s.link.receiver.classify ((dataFrameWhole image1).getLastD 0#8)
        = .data ⟨0#8, 0x20#8, 0#8 :: 1#8 :: 0#8 :: 0#8 :: image1⟩
      ∧ parseData (0#8 :: 1#8 :: 0#8 :: 0#8 :: image1) = some ⟨.t0, 1#8, 0, image1⟩
      ∧ s.wanted.any (fun w => decide (w.target = .t0 ∧ w.tag = 1#8 ∧ w.block = 0)) = true ∧ s.channelOf .t0 = some .a
      ∧ s.job .t0 = some j ∧ j.state = .streaming ∧ j.entry = some ⟨true, .host, 0⟩
      ∧ (s.channels.get .a).params = some (streamParams image1) ∧ 32 ≤ image1.length ∧ image1.take 32 = (streamParams image1).header
      ∧ image1.length = blockLength (streamParams image1).length 0 ∧ slots.any (·.isDelivering) = false
      ∧ heldBlock j.delivered slots = some image1 := by decide +kernel

/-- A block 0 that does not hold the probed header. -/
theorem witness_WrongLengthEndsFetch_changed : let j := jobIn .streaming .fetch .host
    let s := almost (dataFrameWhole blank) (hostBlock0 .newest j)
    let hit := fun w : Wanted => decide (w.target = .t0 ∧ w.tag = 1#8 ∧ w.block = 0)
    (s.pins.reset = false ∧ s.link.receiver.classify ((dataFrameWhole blank).getLastD 0#8)
        = .data ⟨0#8, 0x20#8, 0#8 :: 1#8 :: 0#8 :: 0#8 :: blank⟩
      ∧ parseData (0#8 :: 1#8 :: 0#8 :: 0#8 :: blank) = some ⟨.t0, 1#8, 0, blank⟩
      ∧ s.wanted.any hit = true ∧ s.channelOf .t0 = some .a ∧ s.job .t0 = some j ∧ j.state = .streaming
      ∧ j.entry = some ⟨true, .host, 0⟩ ∧ j.position = some .p0 ∧ j.phase = some .fetch
      ∧ (s.channels.get .a).params = some (streamParams image1) ∧ blank.take 32 ≠ (streamParams image1).header)
    ∧ ∃ u k, State.FetchEnded { s with
        link := { s.link with receiver := .hunting, gap := none }
        reports := s.reports.endQuiet
        wanted := s.wanted.filter fun w => !hit w
        channels := s.channels.set .a { s.channels.get .a with slots := setSlot 0 .free (s.channels.get .a).slots }
        raised := [] } .a .t0 j .p0 .changed u k :=
  ⟨by decide +kernel, fetch_ends _ _ _ _ _ _ (by decide +kernel)⟩

/-- The same block 0 as probed with its last byte missing: the header is the probed one, the length is not. -/
theorem witness_WrongLengthEndsFetch_first : (image1.take 32).take 32 = (streamParams image1).header
    ∧ 32 ≤ (image1.take 32).length ∧ (image1.take 32).length ≠ blockLength (streamParams image1).length 0 := by decide +kernel

theorem witness_HostProbeIsJudged : ∀ m ∈ [SearchMode.first, .newest], ∀ data ∈ [image1, blank],
    let j := jobIn .probing .probe .host
    let s := almost (dataFrameWhole data) (hostBlock0 m j)
    s.pins.reset = false ∧ s.link.receiver.classify ((dataFrameWhole data).getLastD 0#8)
        = .data ⟨0#8, 0x20#8, 0#8 :: 1#8 :: 0#8 :: 0#8 :: data⟩
      ∧ parseData (0#8 :: 1#8 :: 0#8 :: 0#8 :: data) = some ⟨.t0, 1#8, 0, data⟩ ∧ s.channelOf .t0 = some .a
      ∧ s.job .t0 = some j ∧ j.state = .probing ∧ j.entry = some ⟨true, .host, 0⟩ ∧ j.position = some .p0
      ∧ j.phase = some .probe ∧ (s.channels.get .a).slots = [.inFlight 0, .free, .free, .free]
      ∧ (s.channels.get .a).claim = none
      ∧ s.wanted.any (fun w => decide (w.target = .t0 ∧ w.tag = 1#8 ∧ w.block = 0)) = true ∧ (s.record .t0).mode = m
      ∧ judge data (s.record .t0) j.relaxed = (if data = image1 then none else some .badMarker)
      ∧ image1.length = blockLength (streamParams image1).length 0 ∧ s.ports.host.state = .ready := by decide +kernel

/-- T0's HOST probe once its block 0 has come. -/
def hostProbed (m : SearchMode) : State :=
  let s := hostBlock0 m (jobIn .probing .probe .host)
  { s with
    link := { s.link with receiver := .hunting, gap := none }
    reports := s.reports.endQuiet
    wanted := []
    channels := s.channels.set .a { s.channels.get .a with slots := [.free, .free, .free, .free] }
    raised := [] }

theorem witness_HostProbeIsJudged_ends :
    (∀ m, ∃ u k, (hostProbed m).ProbeEnded .a .t0 (jobIn .probing .probe .host) .p0 .badMarker u k)
    ∧ ∃ u k, (hostProbed .newest).Moved .a .t0
        { jobIn .probing .probe .host with candidates := [⟨.p0, 1#32, 1, image1.take 32⟩] } u k :=
  ⟨fun m => by cases m <;> exact probe_ends _ _ _ _ _ _ (by decide +kernel), moves_on _ _ _ _ (by decide +kernel)⟩

theorem witness_HostTimeoutEndsAttempt :
    (∀ x ∈ [(jobIn .probing .probe .host, slot1 (.inFlight 0)),
        (jobIn .streaming .fetch .host, [Slot.inFlight 0, .inFlight 1, .free, .free])],
      let s := { onA .t0 x.1 x.2 with wanted := [⟨.t0, 1#8, 0, 2000⟩, ⟨.t0, 1#8, 1, 2000⟩] }
      s.pins.reset = false ∧ s.wanted.find? (fun v => decide (v.target = .t0 ∧ v.block = 0)) = some ⟨.t0, 1#8, 0, 2000⟩
        ∧ s.channelOf .t0 = some .a ∧ s.job .t0 = some x.1 ∧ x.1.entry = some ⟨true, .host, 0⟩ ∧ x.1.position = some .p0)
    ∧ (∃ u k, State.AttemptEnded { onA .t0 (jobIn .probing .probe .host) free4 with wanted := [] } .a .t0
        (jobIn .probing .probe .host) .p0 .hostTimeout u k)
    ∧ ∃ u k, State.AttemptEnded { onA .t0 (jobIn .streaming .fetch .host) [.free, .inFlight 1, .free, .free] with
        wanted := [⟨.t0, 1#8, 1, 2000⟩] } .a .t0 (jobIn .streaming .fetch .host) .p0 .hostTimeout u k := by
  refine ⟨by decide +kernel, ?_, ?_⟩
  · obtain ⟨u, k, h⟩ := probe_ends { onA .t0 (jobIn .probing .probe .host) free4 with wanted := [] } .a .t0
      (jobIn .probing .probe .host) .p0 .hostTimeout (by decide +kernel)
    exact ⟨u, k, .inr ⟨rfl, rfl, h⟩⟩
  · obtain ⟨u, k, h⟩ := fetch_ends { onA .t0 (jobIn .streaming .fetch .host) [.free, .inFlight 1, .free, .free] with
        wanted := [⟨.t0, 1#8, 1, 2000⟩] } .a .t0 (jobIn .streaming .fetch .host) .p0 .hostTimeout (by decide +kernel)
    exact ⟨u, k, .inl ⟨rfl, rfl, h⟩⟩

theorem witness_HostTimeoutEndsLastProbe : let j := { jobIn .probing .probe .host with pass := 3 }
    let s := { onA .t0 j (slot1 (.inFlight 0)) with wanted := [⟨.t0, 1#8, 0, 2000⟩] }
    s.pins.reset = false ∧ s.wanted = [⟨.t0, 1#8, 0, 2000⟩] ∧ s.channelOf .t0 = some .a ∧ s.job .t0 = some j
      ∧ j.state = .probing ∧ j.position = some .p0 ∧ j.phase = some .probe ∧ (s.record .t0).mode = .first ∧ j.rest = []
      ∧ j.passLimit ≠ 0 ∧ j.passLimit ≤ j.pass := by decide +kernel

theorem witness_ReceiverFindsFrames :
    (up.pins.reset = false ∧ up.link.receiver = .hunting ∧ (0#8 : Byte) ≠ 0xA5#8)
      ∧ ([0xA5#8].length = 1 ∧ (∀ b ∈ [2#8, 242#8], 2 ≤ b.toNat ∧ b.toNat ≤ 242)
        ∧ (∀ b ∈ [0#8, 1#8, 243#8, 255#8], b.toNat < 2 ∨ 242 < b.toNat))
      ∧ (2 ≤ [0xA5#8, 2#8].length ∧ [0xA5#8, 2#8, 0#8, 1#8].length + 1 < (byteAt [0xA5#8, 2#8, 0#8, 1#8] 1).toNat + 4)
      ∧ ((byteAt [0xA5#8, 2#8, 0#8, 1#8, 0#8] 1).toNat + 4 ≤ [0xA5#8, 2#8, 0#8, 1#8, 0#8].length + 1
        ∧ checkFrame ([0xA5#8, 2#8, 0#8, 1#8, 0#8] ++ [0#8]) = none) := by decide +kernel

theorem witness_ReceiverFindsFrames_states : ∀ got ∈ [[0xA5#8], [0xA5#8, 2#8], [0xA5#8, 2#8, 0#8, 1#8, 0#8]],
    let s := { up with link := { up.link with receiver := .receiving got, gap := some 10 } }
    s.pins.reset = false ∧ s.link.receiver = .receiving got ∧ s.link.gap.isSome = true := by decide +kernel

theorem witness_ReceiverAssemblesFrame : ([] : List Byte).length ≤ 240 ∧ (List.replicate 240 0#8).length ≤ 240
    ∧ up.pins.reset = false ∧ up.link.receiver = .hunting := by decide +kernel

/-- A GET SETTINGS frame of sequence 5. -/
def reqFrame : List Byte := frameOf 5#8 0x07#8 []

/-- Four requests of sequences 0 to 3. -/
def four : List Request := [⟨0#8, 7#8, []⟩, ⟨1#8, 7#8, []⟩, ⟨2#8, 7#8, []⟩, ⟨3#8, 7#8, []⟩]

theorem witness_RequestFrameAccepted :
    let s := fun queue cache => almost reqFrame { up with link := { up.link with queue := queue, cache := cache } }
    let f : Frame := ⟨5#8, 0x07#8, []⟩
    (∀ x ∈ [(([⟨5#8, 7#8, []⟩] : List Request), ([] : List CachedReply)), ([], [⟨5#8, [1#8]⟩]), (four, []), (four.tail, [])],
      (s x.1 x.2).pins.reset = false
        ∧ (s x.1 x.2).link.receiver.classify (reqFrame.getLastD 0#8) = .request f)
      ∧ (s [⟨5#8, 7#8, []⟩] []).link.holds f.seq = true
      ∧ ((s [] [⟨5#8, [1#8]⟩]).link.holds f.seq = false
        ∧ (s [] [⟨5#8, [1#8]⟩]).link.cache.find? (·.seq = f.seq) = some ⟨5#8, [1#8]⟩)
      ∧ ((s four []).link.holds f.seq = false ∧ (s four []).link.cache.find? (·.seq = f.seq) = none
        ∧ 4 ≤ (s four []).link.queue.length)
      ∧ ((s four.tail []).link.holds f.seq = false ∧ (s four.tail []).link.cache.find? (·.seq = f.seq) = none
        ∧ (s four.tail []).link.queue.length < 4) := by decide +kernel

/-! ### Witnesses: reports -/

/-- A WAITING report of a target's wants. -/
def waits (t : Target) : Entry := .fresh (.want t) (.want ⟨t, 0#8, []⟩)

/-- A report IN FLIGHT under a sequence. -/
def flies (t : Target) (n : Byte) : Entry := { waits t with inFlight := true, seq := some n, timer := some 250 }

theorem witness_BreakReturnsReports : (∀ w ∈ [waits .t0, waits .t1], w.inFlight = false)
    ∧ (flies .t0 1#8).inFlight = true ∧ (flies .t2 2#8).inFlight = true ∧ (flies .t2 3#8).inFlight = true := by
  decide +kernel

/-- The Report Queue with some entries. -/
def queueOf (es : List Entry) : ReportQueue := ⟨es, 2#8, false⟩

theorem witness_TransmitterSends :
    let sent := { up with
      link := { up.link with tx := .report 1#8 [] }, reports := queueOf [{ flies .t0 1#8 with timer := none }, waits .t1] }
    up.pins.reset = false ∧ up.link.tx = .idle ∧ up.link.replies = []
      ∧ (queueOf [waits .t0]).start = some (2#8, reportFrame (waits .t0) 2#8,
        { queueOf [flies .t0 2#8] with entries := [{ flies .t0 2#8 with timer := none }], counter := 3#8 })
      ∧ sent.link.tx = .report 1#8 [] ∧ sent.reports.quiet = false
      ∧ sent.reports.entries = [] ++ { flies .t0 1#8 with timer := none } :: [waits .t1]
      ∧ (flies .t0 1#8).inFlight = true ∧ (flies .t0 1#8).seq = some 1#8 ∧ (flies .t0 1#8).due = false
      ∧ (∀ x ∈ [] ++ [waits .t1], ¬ (x.inFlight = true ∧ x.seq = some 1#8)) := by decide +kernel

theorem witness_TransmitterSends_replies : restarting.link.tx = .reply [1#8]
    ∧ ({ up with link := { up.link with replies := [⟨[1#8], false⟩] } } : State).link.replies = [⟨[1#8], false⟩]
    ∧ (⟨[1#8], false⟩ : Reply).restart = false := by decide +kernel

theorem witness_ReportChosenInOrder :
    let due := { flies .t0 1#8 with due := true, timer := none }
    (({ queueOf [waits .t0] with quiet := true } : ReportQueue).quiet = true)
      ∧ ((queueOf [flies .t1 0#8, due]).entries = [flies .t1 0#8] ++ due :: [] ∧ due.inFlight = true ∧ due.due = true
        ∧ due.seq = some 1#8 ∧ ∀ x ∈ [flies .t1 0#8], ¬ (x.inFlight = true ∧ x.due = true))
      ∧ (∀ n ∈ [1#8, 2#8], let q := queueOf [flies .t0 n, waits .t1]
        q.entries = [flies .t0 n] ++ waits .t1 :: [] ∧ q.quiet = false ∧ (waits .t1).inFlight = false
          ∧ (∀ x ∈ [flies .t0 n], x.inFlight = true) ∧ (∀ x ∈ q.entries, ¬ (x.inFlight = true ∧ x.due = true))
          ∧ q.flying.length < 2 ∧ ((∀ x ∈ q.flying, x.seq ≠ some q.counter) ∨ ∃ x ∈ q.flying, x.seq = some q.counter))
      ∧ (let q := queueOf [flies .t0 0#8, flies .t1 1#8, waits .t2]
        (∀ x ∈ q.entries, ¬ (x.inFlight = true ∧ x.due = true)) ∧ 2 ≤ q.flying.length) := by decide +kernel

theorem witness_SubmissionPlaced : let es := [flies .t0 1#8, waits .t1, waits .t0]
    (∀ e ∈ [flies .t0 1#8], ¬ (e.id = .want .t0 ∧ e.inFlight = false))
      ∧ es = [flies .t0 1#8, waits .t1] ++ waits .t0 :: [] ∧ (waits .t0).id = .want .t0 ∧ (waits .t0).inFlight = false
      ∧ (∀ y ∈ [flies .t0 1#8, waits .t1], ¬ (y.id = .want .t0 ∧ y.inFlight = false)) := by decide +kernel

theorem witness_ResendTimerExpires : ∀ n ∈ [0, 2, 3],
    let e := { flies .t0 1#8 with resends := n }
    let s := { up with reports := queueOf [flies .t1 0#8, e] }
    s.pins.reset = false ∧ s.reports.entries = [flies .t1 0#8] ++ e :: [] ∧ e.inFlight = true ∧ e.seq = some 1#8
      ∧ e.timer.isSome = true ∧ (∀ x ∈ [flies .t1 0#8], ¬ (x.inFlight = true ∧ x.seq = some 1#8))
      ∧ (e.resends < 3 ∨ 3 ≤ e.resends) := by decide +kernel

theorem witness_AckRemovesReport : ∀ payload ∈ [[1#8], [], [1#8, 2#8]], let s := almost (frameOf 0#8 0x21#8 payload) up
    s.pins.reset = false
      ∧ s.link.receiver.classify ((frameOf 0#8 0x21#8 payload).getLastD 0#8) = .ack ⟨0#8, 0x21#8, payload⟩ := by decide +kernel

/-! ### Witnesses: requests -/

theorem witness_BusyHandlerTakesNothing : up.pins.reset = false ∧ (serving .save up).link.handler ≠ .idle
    ∧ 4 ≤ ({ up with link := { up.link with replies := List.replicate 4 ⟨[], false⟩ } } : State).link.replies.length := by
  decide +kernel

/-- The part before READY. -/
def early (s : State) : State := { s with store := { s.store with startup := .loadingSetup } }

/-- A request that is the only one waiting before READY may be taken. -/
theorem early_may (kind : Byte) (payload : List Byte) :
    (early (asked kind payload up)).MayTake ⟨7#8, kind, payload⟩ [] := ⟨rfl, rfl, Nat.zero_lt_succ 3, rfl⟩

theorem witness_GatedUntilReady :
    ((.load, 0x09#8) ∈ requestRows ∧ (0x09#8 : Byte) ∉ [0x01#8, 0x02#8, 0x10#8, 0x0C#8])
      ∧ (∀ kind payload, (early (asked kind payload up)).MayTake ⟨7#8, kind, payload⟩ []
        ∧ (early (asked kind payload up)).store.startup ≠ .ready)
      ∧ (∀ kind payload, (asked kind payload up).MayTake ⟨7#8, kind, payload⟩ []
        ∧ (asked kind payload up).store.startup = .ready)
      ∧ (∀ k ∈ [0#8, 0x11#8, 0xFF#8], (k : Byte).toNat = 0 ∨ 0x10 < k.toNat)
      ∧ (∀ a ∈ [0#8, 1#8, 2#8], byteAt [0#8, a] 1 = a) :=
  ⟨by decide, fun _ _ => ⟨early_may _ _, nofun⟩, fun _ _ => ⟨asked_may _ _, rfl⟩, by decide, by decide⟩

theorem witness_WrongLengthRefused :
    ∀ x ∈ requestRows, (asked x.2 (List.replicate 23 0#8) up).MayTake ⟨7#8, x.2, List.replicate 23 0#8⟩ []
      ∧ (asked x.2 (List.replicate 23 0#8) up).store.startup = .ready
      ∧ (List.replicate 23 0#8).length ≠ payloadLength x.2 := by
  have h : ∀ x ∈ requestRows, (List.replicate 23 0#8).length ≠ payloadLength x.2 := by decide
  exact fun x hx => ⟨asked_may _ _, rfl, h x hx⟩

theorem witness_BadTargetRefused : (asked 0x0A#8 [6#8] up).MayTake ⟨7#8, 0x0A#8, [6#8]⟩ [] ∧ 5 < (6#8).toNat
    ∧ (∀ x ∈ [[6#8, 0#8], [6#8, 1#8], [6#8, 2#8], [5#8, 3#8]],
      5 < (byteAt x 0).toNat ∨ 2 < (byteAt x 1).toNat) := ⟨asked_may _ _, by decide, by decide⟩

theorem witness_QueriesAnswered :
    (∀ kind payload, (asked kind payload up).MayTake ⟨7#8, kind, payload⟩ [] ∧ (asked kind payload up).store.startup = .ready)
      ∧ 7 < (8#8).toNat ∧ 5 < (6#8).toNat ∧ up.job .t0 = none
      ∧ (∀ kind payload j, (asked kind payload (withJob .t0 j up)).MayTake ⟨7#8, kind, payload⟩ []
        ∧ (asked kind payload (withJob .t0 j up)).job .t0 = some j) :=
  ⟨fun _ _ => ⟨asked_may _ _, rfl⟩, by decide, by decide, rfl, fun _ _ _ => ⟨⟨rfl, rfl, Nat.zero_lt_succ 3, rfl⟩, rfl⟩⟩

theorem witness_JobStatusLayout : let d : Descriptor := ⟨.p0, .card, 1#32, 97, 0#32, List.replicate 10 0x41#8⟩
    let x : JobSlot := { JobSlot.reset with descriptor := some d }
    let j := { jobIn .streaming .fetch .flash1 with
      candidates := [⟨.p0, 6#32, 97, []⟩], log := [⟨1, .p0, .probe, .badMarker⟩] }
    x.descriptor = some d ∧ d.label.length = 10 ∧ JobSlot.reset.descriptor = none
      ∧ j.candidates[0]? = some ⟨.p0, 6#32, 97, []⟩ ∧ j.log[0]? = some ⟨1, .p0, .probe, .badMarker⟩ := by decide +kernel

theorem witness_ReportLayouts : (⟨.t0, 1#8, [3, 65535]⟩ : WantItems).blocks[1]? = some 65535 := rfl

/-- A LANE record that differs from T0's, as 21 bytes. -/
def newRecord : List Byte := { setup0.targets.t0 with imageType := 9#8 }.encode

theorem witness_SetupIsEdited_source :
    (∀ kind payload, (asked kind payload up).MayTake ⟨7#8, kind, payload⟩ [] ∧ (asked kind payload up).store.startup = .ready)
      ∧ parseSetSource [7#8, 1#8, 0#8, 64#8, 0#8, 0#8, 0#8] = some (.p7, ⟨true, .flash0, 64⟩)
      ∧ parseSetSource [7#8, 1#8, 0#8, 63#8, 0#8, 0#8, 0#8] = none :=
  ⟨fun _ _ => ⟨asked_may _ _, rfl⟩, by decide +kernel, by decide +kernel⟩

theorem witness_SetupIsEdited_target : (2#8 :: newRecord).length = 22
    ∧ parseSetTarget (2#8 :: newRecord) = some (.t2, { setup0.targets.t0 with imageType := 9#8 }) ∧ up.busy .t2 = false
    ∧ (withJob .t2 (jobIn .backoff .probe .flash1) up).busy .t2 = true ∧ parseSetTarget (6#8 :: newRecord) = none := by
  decide +kernel

theorem witness_SetupIsEdited_settings :
    let x := { Settings.default with c0 := .b }
    let s := withJob .t0 (jobIn .backoff .probe .flash1) up
    x.encode.length = 13 ∧ Settings.parse Settings.default.encode = some .default ∧ Settings.parse x.encode = some x
      ∧ s.busy .t0 = true ∧ x.classMap (s.record .t0).cls ≠ s.settings.classMap (s.record .t0).cls
      ∧ (∀ t ∈ allTargets, up.busy t = false) ∧ Settings.parse (List.replicate 13 3#8) = none := by decide +kernel

theorem witness_LoadCreatesJob :
    (∀ s ∈ [up, withJob .t0 (jobIn .queued .probe .flash1) up],
      (asked 0x09#8 [0#8, 0#8, 0xFF#8] s).link.queue = [⟨7#8, 0x09#8, [0#8, 0#8, 0xFF#8]⟩] ∧ s.store.startup = .ready)
      ∧ parseLoad [0#8, 2#8, 0xFF#8] = none ∧ parseLoad [0#8, 0#8, 0xFF#8] = some ⟨.t0, false, none⟩
      ∧ parseLoad [5#8, 1#8, 7#8] = some ⟨.t5, true, some .p7⟩
      ∧ (up.record .t0).present = true ∧ up.busy .t0 = false
      ∧ (withJob .t0 (jobIn .queued .probe .flash1) up).busy .t0 = true
      ∧ ((early up).record .t0).present = true
      ∧ ({ up with store := { up.store with setup := .default } } : State).record .t0 = .default
      ∧ TargetRecord.default.present = false := by decide +kernel

theorem witness_AbortByJobState : ∀ j ∈ [none, some (jobIn .delivered .fetch .flash1), some (jobIn .queued .probe .flash1),
    some (jobIn .backoff .probe .flash1), some (jobIn .draining .fetch .flash1)],
    let s := { up with jobs := up.jobs.set .t0 { up.jobs.get .t0 with job := j } }
    (asked 0x0A#8 [targetCode .t0] s).link.queue = [⟨7#8, 0x0A#8, [targetCode .t0]⟩] ∧ s.store.startup = .ready
      ∧ s.pins.reset = false ∧ s.link.handler = .idle ∧ s.job .t0 = j := by decide +kernel

theorem witness_AbortStopsAttempt : ∀ x ∈ [JobState.probing, .streaming, .finishing],
    ∀ slots ∈ [free4, [.held 0 (blk 1#8), .inFlight 1, .free, .free]],
    let s := asked 0x0A#8 [targetCode .t0] (onA .t0 (jobIn x .fetch .flash1) slots)
    s.pins.reset = false ∧ s.link.handler = .idle ∧ s.link.queue = [⟨7#8, 0x0A#8, [targetCode .t0]⟩]
      ∧ s.store.startup = .ready ∧ s.job .t0 = some (jobIn x .fetch .flash1) ∧ s.channelOf .t0 = some .a
      ∧ (jobIn x .fetch .flash1).entry = some ⟨true, .flash1, 0⟩ ∧ s.wanted.any (·.target = .t0) = false
      ∧ (s.channels.get .a).slots.any (·.isInFlight) = decide (slots ≠ free4) := by decide +kernel

theorem witness_AbortCancelsHost : ∀ x ∈ [JobState.probing, .streaming], ∀ w ∈ [[], [(⟨.t0, 1#8, 1, 2000⟩ : Wanted)]],
    let s := asked 0x0A#8 [targetCode .t0] { onA .t0 (jobIn x .fetch .host) free4 with wanted := w }
    s.pins.reset = false ∧ s.link.handler = .idle ∧ s.link.replies.length < 4
      ∧ s.link.queue = [⟨7#8, 0x0A#8, [targetCode .t0]⟩] ∧ s.store.startup = .ready
      ∧ s.job .t0 = some (jobIn x .fetch .host) ∧ s.channelOf .t0 = some .a
      ∧ (jobIn x .fetch .host).entry = some ⟨true, .host, 0⟩ ∧ s.wanted.any (·.target = .t0) = decide (w ≠ []) := by
  decide +kernel

theorem witness_TargetLineActs : ∀ a ∈ [0#8, 1#8, 2#8],
    (asked 0x0C#8 [targetCode .t0, a] up).MayTake ⟨7#8, 0x0C#8, [targetCode .t0, a]⟩ [] ∧ up.busy .t0 = false
      ∧ (up.jobs.get .t0).condition = .none ∧ (withJob .t0 (jobIn .backoff .probe .flash1) up).busy .t0 = true
      ∧ (loaded false setup0.sources).busy .t0 = false ∧ ((loaded false setup0.sources).jobs.get .t0).condition ≠ .none :=
  fun _ _ => ⟨asked_may _ _, by decide +kernel⟩

theorem witness_PeekPlacesClaim : (asked 0x0D#8 [0#8, 0#8, 0#8, 0#8, 0#8] up).MayTake ⟨7#8, 0x0D#8, [0#8, 0#8, 0#8, 0#8, 0#8]⟩ []
    ∧ parsePeek [2#8, 0xFF#8, 0xFF#8, 0xFF#8, 0#8] = some (.card, 16777215) ∧ up.refuses .card = false
    ∧ (portAt .card .empty [] up).refuses .card = true ∧ parsePeek [2#8, 0#8, 0#8, 0#8, 1#8] = none
    ∧ parsePeek [3#8, 0#8, 0#8, 0#8, 0#8] = none :=
  ⟨asked_may _ _, by decide +kernel⟩

theorem witness_RescanByPortState :
    (∀ p ∈ [Port.flash0, .flash1, .card], up.portInUse p = false ∧ (up.ports.get p).state = .ready
      ∧ (portAt p .ready [⟨.chan .a 0, 0⟩] up).portInUse p = true)
      ∧ (∀ x ∈ [PortState.empty, .waking, .faulted], (portAt .card x [] up).ports.card.state = x
        ∧ (portAt .card x [] up).portInUse .card = false) ∧ 2 < (3#8).toNat
      ∧ ((portAt .flash0 .absent [] up).ports.get .flash0).state = .absent := by decide +kernel

theorem witness_SaveAndRestartTaken :
    (∀ kind, (asked kind [] up).MayTake ⟨7#8, kind, []⟩ [] ∧ (asked kind [] up).store.startup = .ready)
      ∧ ({ up.store with generation := some 0xFFFFFFFF#32 } : SetupStore).generation = some 0xFFFFFFFF#32
      ∧ up.store.generation ≠ some 0xFFFFFFFF#32 ∧ (portAt .flash0 .absent [] up).ports.flash0.state = .absent
      ∧ up.ports.flash0.state = .ready ∧ (portAt .flash0 .ready [⟨.peek, 0⟩] up).ports.flash0.reads ≠ []
      ∧ up.ports.flash0.reads = [] ∧ 64 ≤ up.ports.flash0.capacity
      ∧ ({ up.ports.flash0 with capacity := 31 } : SourcePort).capacity < 32 :=
  ⟨fun _ => ⟨asked_may _ _, rfl⟩, by decide +kernel⟩

/-! ### Witnesses: saves -/

theorem witness_SaveGoesOn : ∀ g ∈ [SaveStage.erasing, .writing false, .writing true, .verifying false, .verifying true],
    let s := saving g up
    s.pins.reset = false ∧ s.store.save = some (save0 g) ∧ s.link.handler = .serving ⟨7#8, 0x0E#8, []⟩ .save
      ∧ (save0 g).stage = g := by decide +kernel

theorem witness_SaveFails : ∀ second ∈ [false, true],
    blk 0#8 ≠ ((buildCopy 1#32 setup0).drop (if second then 128 else 0)).take 128 ∧ (blk 0#8).length = 128 := by
  intro second h
  refine ⟨?_, by decide +kernel⟩
  cases second
  · intro e
    have e1 := congrArg (fun l => l.getD 0 0#8) e
    revert e1; decide +kernel
  · intro e
    have e1 := congrArg (fun l => l.getD 127 0#8) e
    revert e1; decide +kernel

theorem witness_WriterWaitsForReads_held : ∀ more ∈ [[], [⟨.chan .b 0, 9⟩]],
    let j := jobIn .streaming .fetch .flash0
    let s := saving .waiting (portAt .flash0 .ready (⟨.chan .a 1, 1⟩ :: more)
      (onA .t0 j [.delivering 0 (blk 1#8), .inFlight 1, .free, .free]))
    s.pins.reset = false ∧ s.store.save = some (save0 .waiting) ∧ (save0 .waiting).stage = .waiting
      ∧ s.ports.flash0.state = .ready ∧ s.ports.flash0.reads = ⟨.chan .a 1, 1⟩ :: more ∧ 64 ≤ s.ports.flash0.capacity
      ∧ (blk 0#8).length = 128 ∧ (s.channels.get .a).running = some .t0 ∧ s.job .t0 = some j ∧ j.state = .streaming
      ∧ j.entry = some ⟨true, .flash0, 0⟩ ∧ (s.channels.get .a).params = some (params 0#32)
      ∧ (setSlot 1 (.held 1 (blk 0#8)) (s.channels.get .a).slots).any (·.isDelivering) = true := by decide +kernel

theorem witness_WriterWaitsForReads_drain :
    (let j := jobIn .draining .fetch .flash0
    let s := saving .waiting (portAt .flash0 .ready [⟨.chan .a 0, 0⟩, ⟨.chan .a 1, 1⟩]
      (onA .t0 j [.inFlight 0, .inFlight 1, .free, .free]))
    s.ports.flash0.reads = ⟨.chan .a 0, 0⟩ :: [⟨.chan .a 1, 1⟩] ∧ s.job .t0 = some j ∧ j.state = .draining
      ∧ (setSlot 0 .free (s.channels.get .a).slots).any (·.isInFlight) = true)
    ∧ ∀ more ∈ [[], [⟨.chan .b 0, 9⟩]],
      let j := { jobIn .draining .fetch .flash0 with abortPending := true }
      let s := saving .waiting (portAt .flash0 .ready (⟨.chan .a 0, 0⟩ :: more) (onA .t0 j (slot1 (.inFlight 0))))
      s.pins.reset = false ∧ s.store.save = some (save0 .waiting) ∧ s.ports.flash0.state = .ready
        ∧ s.ports.flash0.reads = ⟨.chan .a 0, 0⟩ :: more ∧ 64 ≤ s.ports.flash0.capacity
        ∧ (s.channels.get .a).running = some .t0 ∧ s.job .t0 = some j ∧ j.state = .draining ∧ j.abortPending = true
        ∧ (setSlot 0 .free (s.channels.get .a).slots).any (·.isInFlight) = false := by decide +kernel

/-! ### Witnesses: images, frames, copies and invariants -/

theorem witness_HeaderBytesAlone : ((blk 0#8).take 31).length < 32 ∧ 32 ≤ ((blk 0#8).take 32).length
    ∧ (Instr.readComplete .card 2 (blk 0#8)).wf = true ∧ (blk 0#8).length = 128
    ∧ (parseData (0#8 :: 1#8 :: 0#8 :: 0#8 :: blk 0#8)).isSome = true
    ∧ (parseData [5#8, 255#8, 255#8, 255#8, 1#8]).isSome = true := by decide +kernel

/-- The rows of 3.5 meet the clauses of R59 one after another; the last two are relaxed and not. -/
theorem witness_HeaderStepsInOrder : ∀ h ∈ [hdr copyMarker 1#8 1#8 5#8 0#8 6 40000, (good 2#8 5#8 0#8 6 40000).take 30 ++ [0#8, 0#8],
    hdr imageMarker 2#8 1#8 5#8 0#8 6 40000, good 2#8 5#8 0#8 6 40000, good 1#8 6#8 0#8 6 40000, good 1#8 5#8 0#8 6 70000,
    good 1#8 5#8 0#8 3 40000, good 1#8 5#8 1#8 4 40000], 32 ≤ h.length := by decide +kernel

/-- Headers that pass steps 1 to 3, for a LANE and a MEMORY target: a kind and an image type out of range, a length of 0, at
the limit and past it, and a version under the floor. -/
theorem witness_KindTypeAndLengthSteps : rec35.inRange = true ∧ ({ rec35 with kind := .memory } : TargetRecord).inRange = true
    ∧ ∀ h ∈ [good 0#8 5#8 0#8 6 40000, good 3#8 5#8 0#8 6 40000, good 2#8 5#8 0#8 6 40000, good 1#8 0#8 0#8 6 40000,
        good 1#8 255#8 0#8 6 40000, good 1#8 5#8 0#8 6 0, good 1#8 5#8 0#8 6 65536, good 1#8 5#8 0#8 6 65537,
        good 1#8 5#8 0#8 6 8388577, good 1#8 5#8 1#8 3 1],
      32 ≤ h.length ∧ h.take 4 = [0x9E#8, 0x4D#8, 0x1A#8, 0xC7#8]
        ∧ (crc16 (h.take 30)).toNat = (h.getD 30 0#8).toNat + 256 * (h.getD 31 0#8).toNat ∧ h.getD 4 0#8 = 1#8
        ∧ ∀ i ∈ [1, 2, 3, 4, 5, 6, 7], (h.getD 7 0#8).getLsbD i = false := by decide +kernel

theorem witness_FrameRoundTrip : (List.replicate 240 0#8).length ≤ 240 := by decide +kernel

theorem setup0_inRange : setup0.InRange :=
  ⟨fun p => by cases p <;> decide, fun t => by cases t <;> decide, by decide⟩

theorem witness_SavedCopyRoundTrip : setup0.InRange := setup0_inRange

/-- T0's job before its first attempt. -/
def newJob0 : Job := { jobIn .queued .probe .flash1 with position := none, phase := none, entry := none }

/-- A part whose T0 waits in channel A's queue, where a channel may take it. -/
def queued0 : State := { withJob .t0 newJob0 up with queues := ⟨[.t0], []⟩, pending := [.channelTake .a] }

/-- The step of a waiting take answers a next state. -/
theorem take_steps (s : State) (h : s.pending = [.channelTake .a]) : ∃ t, step s = .next t := by
  rw [step, h]
  exact ⟨_, rfl⟩

theorem queued0_job (t : Target) (j : Job) (h : queued0.job t = some j) : t = .t0 ∧ j = newJob0 := by
  have key : ∀ t ∈ allTargets, queued0.job t = if t = .t0 then some newJob0 else none := by decide +kernel
  rw [key t (by cases t <;> decide)] at h
  split at h
  · exact ⟨‹_›, (Option.some.inj h).symm⟩
  · cases h

theorem queued0_held : queued0.HeldOk := fun h => absurd (show false = true from h) (by decide)

theorem queued0_setup : queued0.SetupOk := ⟨setup0_inRange, fun _ h => absurd (show none = some _ from h) (by simp)⟩

theorem queued0_jobs : queued0.JobsOk := by
  refine ⟨fun t => ?_, fun t j h => ?_, fun h => absurd rfl h⟩
  · have key : ∀ t ∈ allTargets, queued0.runCount t = 0 ∧ queued0.queueCount t = (if t = .t0 then 1 else 0)
        ∧ queued0.job t = if t = .t0 then some newJob0 else none := by decide +kernel
    obtain ⟨h1, h2, h3⟩ := key t (by cases t <;> decide)
    unfold State.JobPlaced
    rw [h1, h2, h3]
    by_cases h : t = .t0
    · simp only [h, if_true]; exact ⟨rfl, rfl⟩
    · simp [h]
  · obtain ⟨-, rfl⟩ := queued0_job t j h
    decide

theorem queued0_lines : queued0.LinesOk := by
  intro t j h
  obtain ⟨rfl, rfl⟩ := queued0_job t j h
  decide +kernel

theorem witness_HeldResetKept : ({ State.reset with pending := [.channelTake .a] } : State).HeldOk
    ∧ ({ State.reset with pending := [.channelTake .a] } : State).pins.reset = true
    ∧ ∃ t, step { State.reset with pending := [.channelTake .a] } = .next t := ⟨fun _ => rfl, rfl, take_steps _ rfl⟩

theorem witness_SetupRangesKept : queued0.SetupOk ∧ ∃ t, step queued0 = .next t := ⟨queued0_setup, take_steps _ rfl⟩

theorem queued0_ports : queued0.PortsOk := by
  refine ⟨fun p => ?_, fun p _ => ?_, rfl⟩
  · cases p <;> decide +kernel
  · cases p <;> rfl

theorem witness_PortCreditsKept : queued0.HeldOk ∧ queued0.SetupOk ∧ queued0.PortsOk ∧ ∃ t, step queued0 = .next t :=
  ⟨queued0_held, queued0_setup, queued0_ports, take_steps _ rfl⟩

/-- A part with a request waiting, a take waiting beside it. -/
def linked : State := { asked 0x07#8 [] up with pending := [.channelTake .a] }

theorem linked_ok : linked.LinkOk := by
  refine ⟨by decide +kernel, by decide +kernel, by decide +kernel, fun _ => by decide +kernel, by decide +kernel,
    by decide +kernel, by decide +kernel⟩

theorem linked_sequences : linked.SequencesOk := by
  have : ([7#8] : List Byte).Nodup := by decide
  exact this

theorem witness_LinkKept : linked.LinkOk ∧ linked.SequencesOk ∧ ∃ t, step linked = .next t :=
  ⟨linked_ok, linked_sequences, take_steps _ rfl⟩

theorem witness_ReportQueueKept :
    let s := { queued0 with reports := queueOf [flies .t0 1#8, waits .t1] }
    s.reports.Ok ∧ ∃ t, step s = .next t := by
  refine ⟨?_, take_steps _ rfl⟩
  unfold ReportQueue.Ok
  decide +kernel

theorem witness_JobPlacesKept : queued0.HeldOk ∧ queued0.JobsOk ∧ ∃ t, step queued0 = .next t :=
  ⟨queued0_held, queued0_jobs, take_steps _ rfl⟩

theorem witness_HeldLinesKept : queued0.HeldOk ∧ queued0.JobsOk ∧ queued0.LinesOk ∧ ∃ t, step queued0 = .next t :=
  ⟨queued0_held, queued0_jobs, queued0_lines, take_steps _ rfl⟩

end Sys2Proof.Tests
end

section
/-! SUPPORT. The Header Check step by step (R59 to R62), and the statements on it. -/

namespace Sys2Proof.Machine

/-! ### Bytes of a header -/

@[simp] theorem bytesAt_zero (bs : List Byte) (k : Nat) : bytesAt bs 0 k = bs.take k := rfl

/-- A little-endian number at an offset, its lowest byte taken off (R190); bytes past the end count as 0. -/
theorem ofLE_bytesAt_succ (bs : List Byte) (i k : Nat) :
    ofLE (bytesAt bs i (k + 1)) = (byteAt bs i).toNat + 256 * ofLE (bytesAt bs (i + 1) k) := by
  rcases Nat.lt_or_ge i bs.length with hi | hi
  · have hb : byteAt bs i = bs[i] := List.getD_eq_getElem bs 0#8 hi
    rw [bytesAt, List.drop_eq_getElem_cons hi, List.take_succ_cons, ofLE, hb, bytesAt]
  · have hi' : bs.length ≤ i + 1 := Nat.le_succ_of_le hi
    have hb : byteAt bs i = 0#8 := List.getD_eq_default bs 0#8 hi
    simp [bytesAt, List.drop_eq_nil_of_le hi, List.drop_eq_nil_of_le hi', ofLE, hb]

/-- A 16-bit field of an image is its low byte and 256 times its high byte (R190). -/
theorem ofLE_bytesAt_two (bs : List Byte) (i : Nat) :
    ofLE (bytesAt bs i 2) = (byteAt bs i).toNat + 256 * (byteAt bs (i + 1)).toNat := by
  rw [ofLE_bytesAt_succ, ofLE_bytesAt_succ, bytesAt, List.take_zero, ofLE, Nat.mul_zero, Nat.add_zero]

/-- The mask of step 3 holds exactly the flag bits without a meaning, bits 1 to 7 (R59). -/
theorem getLsbD_flagMask {i : Nat} (hi : i < 8) : (0xFE#8).getLsbD i = decide (1 ≤ i) := by
  interval_cases i <;> rfl

theorem and_flagMask_eq_zero_iff (b : Byte) :
    b &&& 0xFE#8 = 0#8 ↔ ∀ i, 1 ≤ i → i < 8 → b.getLsbD i = false := by
  constructor
  · intro h i h1 h8
    have hbit : (b &&& 0xFE#8).getLsbD i = false := by rw [h, BitVec.getLsbD_zero]
    simpa [getLsbD_flagMask h8, h1] using hbit
  · intro h
    refine BitVec.eq_of_getLsbD_eq fun i h8 => ?_
    rcases Nat.eq_zero_or_pos i with rfl | h1
    · simp
    · simp [h i h1 h8]

/-- A kind byte other than 1 and 2 is no target kind's code (R61). -/
theorem ne_kindCode {b : Byte} (h : b.toNat = 0 ∨ 3 ≤ b.toNat) (k : Kind) : b ≠ kindCode k := by
  rintro rfl
  cases k <;> simp [kindCode] at h

/-! ### The steps of the Header Check (R59) -/

/-- R59: a header that passes steps 1 to 3, those that do not depend on the target. -/
structure HeaderSound (bs : List Byte) : Prop where
  marker : bs.take 4 = imageMarker
  check : (crc16 (bs.take 30)).toNat = (byteAt bs 30).toNat + 256 * (byteAt bs 31).toNat
  format : byteAt bs 4 = 1#8
  flags : ∀ i, 1 ≤ i → i < 8 → (byteAt bs 7).getLsbD i = false

section Steps
variable {bs : List Byte} {r : TargetRecord} {relaxed : Bool}

/-- Step 1. -/
theorem judge_of_bad_marker (hlen : 32 ≤ bs.length) (hm : bs.take 4 ≠ imageMarker) :
    judge bs r relaxed = some .badMarker := by
  simp [judge, Config.headerBytes, Nat.not_lt.mpr hlen, hm]

/-- Step 2. -/
theorem judge_of_bad_check (hlen : 32 ≤ bs.length) (hm : bs.take 4 = imageMarker)
    (hc : (crc16 (bs.take 30)).toNat ≠ (byteAt bs 30).toNat + 256 * (byteAt bs 31).toNat) :
    judge bs r relaxed = some .badHeader := by
  simp [judge, Config.headerBytes, Nat.not_lt.mpr hlen, hm, ofLE_bytesAt_two, hc]

/-- Step 3. -/
theorem judge_of_bad_format (hlen : 32 ≤ bs.length) (hm : bs.take 4 = imageMarker)
    (hc : (crc16 (bs.take 30)).toNat = (byteAt bs 30).toNat + 256 * (byteAt bs 31).toNat)
    (hf : ¬ (byteAt bs 4 = 1#8 ∧ ∀ i, 1 ≤ i → i < 8 → (byteAt bs 7).getLsbD i = false)) :
    judge bs r relaxed = some .badHeader := by
  have hf' : byteAt bs 4 ≠ 1#8 ∨ byteAt bs 7 &&& 0xFE#8 ≠ 0#8 := by
    rwa [← and_flagMask_eq_zero_iff, not_and_or] at hf
  simp [judge, Config.headerBytes, Nat.not_lt.mpr hlen, hm, ofLE_bytesAt_two, hc, hf']

/-- Past steps 1 to 3, what is left of the check is steps 4 to 7. -/
theorem judge_of_sound (hlen : 32 ≤ bs.length) (hs : HeaderSound bs) :
    judge bs r relaxed =
      if byteAt bs 5 ≠ kindCode r.kind then some .wrongType
      else if relaxed = false ∧ byteAt bs 6 ≠ r.imageType then some .wrongType
      else if hdrLength bs = 0 ∨ r.maxPayload < hdrLength bs then some .badLength
      else if relaxed = false ∧ hdrVersion bs < r.versionFloor then some .belowFloor
      else none := by
  obtain ⟨hm, hc, hf, hz⟩ := hs
  have hz' : byteAt bs 7 &&& 0xFE#8 = 0#8 := (and_flagMask_eq_zero_iff _).mpr hz
  simp [judge, Config.headerBytes, Nat.not_lt.mpr hlen, hm, ofLE_bytesAt_two, hc, hf, hz']

/-- Step 4, relaxed or not (R61). -/
theorem judge_of_bad_kind (hlen : 32 ≤ bs.length) (hs : HeaderSound bs) (hk : byteAt bs 5 ≠ kindCode r.kind) :
    judge bs r relaxed = some .wrongType := by
  rw [judge_of_sound hlen hs, if_pos hk]

/-- Step 5, which a relaxed job leaves out. -/
theorem judge_of_bad_imageType (hlen : 32 ≤ bs.length) (hs : HeaderSound bs) (hk : byteAt bs 5 = kindCode r.kind)
    (ht : ¬ (relaxed = true ∨ byteAt bs 6 = r.imageType)) : judge bs r relaxed = some .wrongType := by
  rw [not_or, Bool.not_eq_true] at ht
  rw [judge_of_sound hlen hs, if_neg (not_not_intro hk), if_pos ht]

/-- Past steps 1 to 5, what is left of the check is the length and the version floor. -/
theorem judge_of_type_passed (hlen : 32 ≤ bs.length) (hs : HeaderSound bs) (hk : byteAt bs 5 = kindCode r.kind)
    (ht : relaxed = true ∨ byteAt bs 6 = r.imageType) :
    judge bs r relaxed =
      if hdrLength bs = 0 ∨ r.maxPayload < hdrLength bs then some .badLength
      else if relaxed = false ∧ hdrVersion bs < r.versionFloor then some .belowFloor
      else none := by
  have ht' : ¬ (relaxed = false ∧ byteAt bs 6 ≠ r.imageType) := by
    rwa [not_and_or, Bool.not_eq_false, not_not]
  rw [judge_of_sound hlen hs, if_neg (not_not_intro hk), if_neg ht']

/-- Step 6. -/
theorem judge_of_bad_length (hlen : 32 ≤ bs.length) (hs : HeaderSound bs) (hk : byteAt bs 5 = kindCode r.kind)
    (ht : relaxed = true ∨ byteAt bs 6 = r.imageType) (hl : hdrLength bs = 0 ∨ r.maxPayload < hdrLength bs) :
    judge bs r relaxed = some .badLength := by
  rw [judge_of_type_passed hlen hs hk ht, if_pos hl]

/-- Past steps 1 to 6, the version floor of a job that is not relaxed decides. -/
theorem judge_of_length_passed (hlen : 32 ≤ bs.length) (hs : HeaderSound bs) (hk : byteAt bs 5 = kindCode r.kind)
    (ht : relaxed = true ∨ byteAt bs 6 = r.imageType) (hl : 1 ≤ hdrLength bs ∧ hdrLength bs ≤ r.maxPayload) :
    judge bs r relaxed = if relaxed = false ∧ hdrVersion bs < r.versionFloor then some .belowFloor else none := by
  have hl' : ¬ (hdrLength bs = 0 ∨ r.maxPayload < hdrLength bs) := by omega
  rw [judge_of_type_passed hlen hs hk ht, if_neg hl']

/-- Step 7, which a relaxed job leaves out. -/
theorem judge_of_below_floor (hlen : 32 ≤ bs.length) (hs : HeaderSound bs) (hk : byteAt bs 5 = kindCode r.kind)
    (ht : relaxed = true ∨ byteAt bs 6 = r.imageType) (hl : 1 ≤ hdrLength bs ∧ hdrLength bs ≤ r.maxPayload)
    (hv : ¬ (relaxed = true ∨ r.versionFloor ≤ hdrVersion bs)) : judge bs r relaxed = some .belowFloor := by
  rw [not_or, Bool.not_eq_true, BitVec.not_le] at hv
  rw [judge_of_length_passed hlen hs hk ht hl, if_pos hv]

/-- A header that passes every applied step is accepted. -/
theorem judge_of_all_passed (hlen : 32 ≤ bs.length) (hs : HeaderSound bs) (hk : byteAt bs 5 = kindCode r.kind)
    (ht : relaxed = true ∨ byteAt bs 6 = r.imageType) (hl : 1 ≤ hdrLength bs ∧ hdrLength bs ≤ r.maxPayload)
    (hv : relaxed = true ∨ r.versionFloor ≤ hdrVersion bs) : judge bs r relaxed = none := by
  have hv' : ¬ (relaxed = false ∧ hdrVersion bs < r.versionFloor) := by
    rwa [not_and_or, Bool.not_eq_false, BitVec.not_lt]
  rw [judge_of_length_passed hlen hs hk ht hl, if_neg hv']

/-- An accepted header has a payload, of no more bytes than the target takes (R62). -/
theorem hdrLength_of_accepted (h : judge bs r relaxed = none) : 1 ≤ hdrLength bs ∧ hdrLength bs ≤ r.maxPayload := by
  have hl : ¬ (hdrLength bs = 0 ∨ r.maxPayload < hdrLength bs) := by
    intro hl
    simp only [judge, if_pos hl] at h
    split_ifs at h
  omega

end Steps

/-! ### Ranges (R1, R55, R62) -/

/-- R1: the type in 1 to 254. -/
theorem TargetRecord.inRange_imageType {r : TargetRecord} (h : r.inRange = true) :
    r.imageType ≠ 0#8 ∧ r.imageType ≠ 255#8 := by
  simp only [TargetRecord.inRange, Bool.and_eq_true, decide_eq_true_eq] at h
  obtain ⟨⟨⟨⟨⟨⟨⟨⟨⟨h0, h255⟩, -⟩, -⟩, -⟩, -⟩, -⟩, -⟩, -⟩, -⟩ := h
  exact ⟨h0, h255⟩

/-- R1: the max payload in 1 to 8,388,576. -/
theorem TargetRecord.inRange_maxPayload {r : TargetRecord} (h : r.inRange = true) : r.maxPayload ≤ 8388576 := by
  simp only [TargetRecord.inRange, Bool.and_eq_true, decide_eq_true_eq] at h
  obtain ⟨⟨⟨⟨⟨-, hmax⟩, -⟩, -⟩, -⟩, -⟩ := h
  exact hmax

/-- A longer payload never takes fewer blocks (R55). -/
theorem blockCount_le_blockCount {m n : Nat} (h : m ≤ n) : blockCount m ≤ blockCount n := by
  simp only [blockCount, imageLength]
  gcongr

/-- The largest payload fills 65,536 blocks (R54, R62). -/
theorem blockCount_largest : blockCount 8388576 = 65536 := rfl

/-! ### The statements -/

/-- Settles O49, one lemma per step. -/
theorem headerStepsInOrder : Obligations.HeaderStepsInOrder := by
  intro bs r relaxed hlen
  refine ⟨judge_of_bad_marker hlen, judge_of_bad_check hlen, judge_of_bad_format hlen, ?_, ?_, ?_, ?_, ?_⟩
  all_goals intro hm hc ⟨hf, hz⟩
  all_goals have hs : HeaderSound bs := ⟨hm, hc, hf, hz⟩
  · exact judge_of_bad_kind hlen hs
  · exact judge_of_bad_imageType hlen hs
  · intro hk ht hl
    exact judge_of_bad_length hlen hs hk ht (by omega)
  · exact judge_of_below_floor hlen hs
  · exact judge_of_all_passed hlen hs

/-- Settles O50, from the lemmas of steps 4 to 7 and the ranges of the target record. -/
theorem kindTypeAndLengthSteps : Obligations.KindTypeAndLengthSteps := by
  intro bs r relaxed hr hlen hm hc hf hz kind type length kindPasses
  have hs : HeaderSound bs := ⟨hm, hc, hf, hz⟩
  have hmax : r.maxPayload ≤ 8388576 := TargetRecord.inRange_maxPayload hr
  obtain ⟨hType0, hType255⟩ := TargetRecord.inRange_imageType hr
  have kind_eq : kindPasses → byteAt bs 5 = kindCode r.kind := by
    rintro (⟨hrk, hk⟩ | ⟨hrk, hk⟩) <;> rw [hrk] <;> exact hk
  have wrong_type : kindPasses → relaxed = false → type ≠ r.imageType → judge bs r relaxed = some .wrongType :=
    fun hk hn ht => judge_of_bad_imageType hlen hs (kind_eq hk) (by simp only [hn, Bool.false_eq_true, false_or]; exact ht)
  refine ⟨?lane, ?memory, ?otherKinds, wrong_type, ?typeOutOfRange, fun hk ht => ⟨?badLength, ?goodLength⟩, ?accepted⟩
  case lane | memory =>
    intro hrk hk
    exact judge_of_bad_kind hlen hs (by rwa [hrk])
  case otherKinds => exact fun hk => judge_of_bad_kind hlen hs (ne_kindCode hk r.kind)
  case typeOutOfRange =>
    rintro hk hn (ht | ht)
    · exact wrong_type hk hn (ht ▸ hType0.symm)
    · exact wrong_type hk hn (ht ▸ hType255.symm)
  case badLength =>
    intro hl
    exact judge_of_bad_length hlen hs (kind_eq hk) ht (by omega)
  case goodLength => exact fun h1 h2 => judge_of_length_passed hlen hs (kind_eq hk) ht ⟨h1, h2⟩
  case accepted =>
    intro h
    obtain ⟨h1, h2⟩ := hdrLength_of_accepted h
    refine ⟨h1, h2, ?_, blockCount_le_blockCount h2⟩
    calc blockCount length ≤ blockCount 8388576 := blockCount_le_blockCount (h2.trans hmax)
      _ = 65536 := blockCount_largest

end Sys2Proof.Machine
end

section
/-! SUPPORT. What a step can do, said once: the actions a command takes inside its event, and the shapes of a next state. The
invariants are proved from these, one case for each action. -/

namespace Sys2Proof.Machine

/-! ### The actions -/

/-- What a command may tell of the pins other than the reset input: only a command that tells a level changes one. -/
def Tells (i : Instr) (g : Pins → Pins) : Prop := (∀ x, (g x).reset = x.reset) ∧ (PinCommand i ∨ g = id)

theorem Tells.id (i : Instr) : Tells i id := ⟨fun _ => rfl, .inr rfl⟩

/-- R170: what the Request Handler makes of a request `r` it has just taken off the queue. -/
inductive State.Answers (i : Instr) (s : State) (r : Request) : State → Prop where
  | reply (st : Status) (data : List Byte) : Answers i s r (s.reply r st data)
  | source (p : Position) (e : SourceEntry) (he : e.inRange = true) : Answers i s r ((s.setSource p e).reply r .ok [])
  | target (t : Target) (x : TargetRecord) (hx : x.inRange = true) (hb : s.busy t = false) :
      Answers i s r ((s.setTarget t x).reply r .ok [])
  | settings (x : Settings) (hx : x.inRange = true) : Answers i s r ((s.setSettings x).reply r .ok [])
  | load (t : Target) (relaxed : Bool) (only : Option Position) (data : List Byte) (hr : s.store.startup = .ready)
      (hb : s.busy t = false) : Answers i s r ((s.createJob t .host relaxed only).reply r .ok data)
  | abortWaiting (t : Target) (j : Job) (data : List Byte) (hj : s.job t = some j)
      (hs : j.state = .queued ∨ j.state = .backoff) : Answers i s r ((s.abortWaiting t).reply r .ok data)
  | abortDraining (t : Target) (data : List Byte) : Answers i s r ((s.abortDraining t).reply r .ok data)
  | abortRunning (c : Chan) (t : Target) (data : List Byte) (hc : s.channelOf t = some c) :
      Answers i s r ((s.abortRunning c t).reply r .ok data)
  | line (g : Pins → Pins) (hg : Tells i g) (t : Target) (a : LineAction) (data : List Byte)
      (hr : s.store.startup = .ready) (hb : s.busy t = false) :
      Answers i s r (((s.updPins g).lineAct t a).reply r .ok data)
  | peek (p : Port) (a : Nat) : Answers i s r (s.peek r p a)
  | rescan (p : Port) : Answers i s r (s.rescan r p)
  | save (hr : s.store.startup = .ready) : Answers i s r (s.startSave r)
  | restart : Answers i s r (s.updLink (·.respond r .ok [] true))

/-- What a command's event can do before its reports are placed. -/
inductive State.Acts (i : Instr) (s : State) : State → Prop where
  | idle : Acts i s s
  | takeHead (c : Chan) : Acts i s (s.takeHead c)
  | backoffEnds (t : Target) : Acts i s (s.backoffEnds t)
  | deliveryEnds (t : Target) : Acts i s (s.deliveryEnds t)
  | line (t : Target) (f : TargetPort → TargetPort) (hf : ∀ x, x.line = .asserted → (f x).line = .asserted) :
      Acts i s (s.updLine t f)
  | readyExpires (t : Target) : Acts i s (s.readyExpires t)
  | tdoneTaken (t : Target) : Acts i s (s.tdoneTaken t)
  | doneExpires (t : Target) : Acts i s (s.doneExpires t)
  | tfltAsserts (t : Target) : Acts i s (s.tfltAsserts t)
  | pendingFault (t : Target) : Acts i s (s.pendingFault t)
  | probeEnds (p : Port) (n : Nat) : Acts i s (s.probeEnds p n)
  | wakeEnds (n : Option Nat) : Acts i s (s.wakeEnds n)
  | insertCard : Acts i s s.insertCard
  | removeCard : Acts i s s.removeCard
  | grantPort (p : Port) : Acts i s (s.grantPort p)
  | readData (p : Port) (n : Nat) (data : List Byte) : Acts i s (s.completeRead p n (State.handData p data))
  | readFails (p : Port) (n : Nat) : Acts i s (s.completeRead p n (State.handError p))
  | wantedExpires (t : Target) (block : Nat) : Acts i s (s.wantedExpires t block)
  | receiveByte (b : Byte) : Acts i s (s.receiveByte b)
  | discardCheck : Acts i s s.discardCheck
  | gapExpires : Acts i s (s.updLink fun x => { x.hunt with gapDiscards := countUp x.gapDiscards })
  | lineBreak : Acts i s ((s.updLink fun x => { x.hunt with cache := [] }).updReports (·.atBreak))
  | startSending : Acts i s s.startSending
  | endSending : Acts i s s.endSending
  | resendExpires (seq : Byte) : Acts i s (s.updReports (·.expire seq))
  | request (r : Request) (rest : List Request) (u : State) (hi : s.link.handler = .idle)
      (hl : s.link.replies.length < 4) (hq : s.link.queue = r :: rest)
      (ha : State.Answers i { s with link := { s.link with queue := rest } } r u) : Acts i s u
  | loadEnds (data : Option (List Byte)) : Acts i s (s.loadEnds data)
  | setStage (g : SaveStage) : Acts i s (s.setStage g)
  | endSave (ok : Bool) : Acts i s (s.endSave ok)

/-- The next states of a command other than RESET_DEASSERT in a state. -/
inductive State.Next (i : Instr) (s : State) : State → Prop where
  | same : Next i s s
  | reset (hi : PinCommand i) : Next i s ((s.powerOn 0).updPins fun x => { x with reset := true })
  | held (g : Pins → Pins) (hg : Tells i g) (h : s.pins.reset = true) : Next i s (s.updPins g)
  | event (g : Pins → Pins) (hg : Tells i g) (h : s.pins.reset = false) (order : List ReportId) (u : State)
      (ha : State.Acts i { s.updPins g with raised := [] } u) : Next i s (u.flush order)

/-! ### The requests -/

/-- R170: a take that serves every request as `Answers` says is an action. -/
theorem takeRequest_acts {i : Instr} (pick : Request → Bool) (serve : Request → State → State)
    (h : ∀ r s, State.Answers i s r (serve r s)) (s : State) : State.Acts i s (State.takeRequest pick serve s) := by
  unfold State.takeRequest
  split
  · rename_i hc
    split
    · rename_i r rest hq
      split
      · exact .request r rest _ hc.1 hc.2 hq (h r _)
      · exact .idle
    · exact .idle
  · exact .idle

theorem gated_answers {i : Instr} {f : Request → State → State} {r : Request} {s : State}
    (h : s.store.startup = .ready → State.Answers i s r (f r s)) : State.Answers i s r (State.gated f r s) := by
  unfold State.gated
  split
  · exact h ‹_›
  · exact .reply ..

theorem sized_answers {i : Instr} {n : Nat} {f : Request → State → State} {r : Request} {s : State}
    (h : State.Answers i s r (f r s)) : State.Answers i s r (State.sized n f r s) := by
  unfold State.sized
  split
  · exact h
  · exact .reply ..

theorem parsed_answers {i : Instr} {α : Type} {x : Option α} {f : α → State} {r : Request} {s : State}
    (h : ∀ a, x = some a → State.Answers i s r (f a)) : State.Answers i s r (s.parsed x f r) := by
  cases x with
  | none => exact .reply ..
  | some a => exact h a rfl

theorem request_acts {i : Instr} (kind : Byte) (n : Nat) (f : Request → State → State)
    (h : ∀ r s, s.store.startup = .ready → State.Answers i s r (f r s)) (s : State) : State.Acts i s (State.request kind n f s) :=
  takeRequest_acts _ _ (fun r s => gated_answers fun hr => sized_answers (h r s hr)) s

/-- R30, R32: a parsed source entry is in range. -/
theorem parse_source_inRange {bs : List Byte} {e : SourceEntry} (h : SourceEntry.parse bs = some e) : e.inRange = true := by
  simp only [SourceEntry.parse, Option.bind_eq_bind, Option.bind_eq_some_iff] at h
  obtain ⟨_, _, _, _, h⟩ := h
  split at h
  · cases h; assumption
  · cases h

/-- R1, R3: a parsed target record is in range. -/
theorem parse_target_inRange {bs : List Byte} {x : TargetRecord} (h : TargetRecord.parse bs = some x) : x.inRange = true := by
  simp only [TargetRecord.parse, Option.bind_eq_bind, Option.bind_eq_some_iff] at h
  obtain ⟨_, _, _, _, _, _, _, _, _, _, _, _, _, _, h⟩ := h
  split at h
  · cases h; assumption
  · cases h

theorem limitOf_getD_range (b : Byte) {d : Nat} (h1 : 1 ≤ d) (h2 : d ≤ 3) :
    1 ≤ (limitOf b).getD d ∧ (limitOf b).getD d ≤ 3 := by
  unfold limitOf
  split
  · assumption
  · exact ⟨h1, h2⟩

theorem hostTimeoutOf_getD_range (b : Byte) {d : Nat} (h1 : 1 ≤ d) (h2 : d ≤ 100) :
    1 ≤ (hostTimeoutOf b).getD d ∧ (hostTimeoutOf b).getD d ≤ 100 := by
  unfold hostTimeoutOf
  split
  · assumption
  · exact ⟨h1, h2⟩

/-- R110, R148: loaded settings are in range, whatever the bytes. -/
theorem load_settings_inRange (bs : List Byte) : (Settings.load bs).inRange = true := by
  have f0 := limitOf_getD_range (byteAt bs 4) (d := 3) (by omega) (by omega)
  have f1 := limitOf_getD_range (byteAt bs 5) (d := 3) (by omega) (by omega)
  have c := limitOf_getD_range (byteAt bs 6) (d := 2) (by omega) (by omega)
  have h := limitOf_getD_range (byteAt bs 7) (d := 3) (by omega) (by omega)
  have t := hostTimeoutOf_getD_range (byteAt bs 12) (d := 20) (by omega) (by omega)
  simp [Settings.inRange, Settings.load, PerPort.get, Settings.default, *]

/-- R111: parsed settings are in range. -/
theorem parse_settings_inRange {bs : List Byte} {x : Settings} (h : Settings.parse bs = some x) : x.inRange = true := by
  unfold Settings.parse at h
  split at h
  · cases h; exact load_settings_inRange bs
  · cases h

theorem parseSetSource_inRange {bs : List Byte} {x : Position × SourceEntry} (h : parseSetSource bs = some x) :
    x.2.inRange = true := by
  unfold parseSetSource at h
  split at h
  · rename_i he
    cases h; exact parse_source_inRange he
  all_goals cases h

theorem parseSetTarget_inRange {bs : List Byte} {x : Target × TargetRecord} (h : parseSetTarget bs = some x) :
    x.2.inRange = true := by
  unfold parseSetTarget at h
  split at h
  · rename_i he
    cases h; exact parse_target_inRange he
  all_goals cases h

theorem load_answers {i : Instr} (s : State) (r : Request) (x : LoadFields) (hr : s.store.startup = .ready) :
    State.Answers i s r (s.load r x) := by
  unfold State.load
  split
  · exact .reply ..
  · split
    · exact .reply ..
    · rename_i hb
      exact .load x.target x.relaxed x.only _ hr (by simpa using hb)

theorem abort_answers {i : Instr} (s : State) (r : Request) (t : Target) : State.Answers i s r (s.abort r t) := by
  unfold State.abort
  split
  · exact .reply ..
  · rename_i j hj
    split
    · exact .reply ..
    · exact .reply ..
    · exact .reply ..
    · rename_i hs
      exact .abortWaiting t j _ hj (.inl hs)
    · rename_i hs
      exact .abortWaiting t j _ hj (.inr hs)
    · exact .abortDraining ..
    all_goals
      split
      · exact .reply ..
      · rename_i c hc
        exact .abortRunning c t _ hc

theorem jobStatus_answers {i : Instr} (s : State) (r : Request) (t : Target) : State.Answers i s r (s.jobStatus r t) := by
  unfold State.jobStatus
  split <;> exact .reply ..

theorem lineRequest_answers {i : Instr} (hi : PinCommand i) (tdone : Bool) (r : Request) (s : State) (hr : s.store.startup = .ready) :
    State.Answers i s r (State.lineRequest tdone r s) := by
  unfold State.lineRequest
  split
  · rename_i t a _ _
    split
    · exact .reply ..
    · rename_i hb
      exact .line (fun y => { y with tdone := y.tdone.set t tdone }) ⟨fun _ => rfl, .inl hi⟩ t a _ hr (by simpa using hb)
  all_goals exact .reply ..

theorem saveSetup_answers {i : Instr} (s : State) (r : Request) (hr : s.store.startup = .ready) :
    State.Answers i s r (s.saveSetup r) := by
  unfold State.saveSetup
  split
  · exact .reply ..
  · split
    · exact .reply ..
    · exact .save hr

theorem lineCommand_acts {i : Instr} (hi : PinCommand i) (a : LineAction) (tdone : Bool) (s : State) : State.Acts i s (State.lineCommand a tdone s) :=
  takeRequest_acts _ _ (fun r s => gated_answers fun hr => sized_answers (lineRequest_answers hi tdone r s hr)) s

/-! ### The next states -/

theorem next_of_event {i : Instr} {s t : State} {f : State → State} {order : List ReportId} (g : Pins → Pins)
    (hg : Tells i g) (hf : ∀ s : State, State.Acts i s (f s)) (h : (s.updPins g).event order f = t) : State.Next i s t := by
  cases hr : s.pins.reset
  · rw [event_running _ _ _ (by simpa [hg.1] using hr)] at h
    exact h ▸ .event g hg hr order _ (hf _)
  · rw [event_held _ _ _ (by simpa [hg.1] using hr)] at h
    exact h ▸ .held g hg hr

theorem next_of_happens {i : Instr} {s t : State} {f : State → State} (hf : ∀ s : State, State.Acts i s (f s)) (h : happens f s = .next t) :
    State.Next i s t :=
  next_of_event id (.id i) hf (Host.Outcome.next.inj h)

theorem next_of_happensWantFirst {i : Instr} {s t : State} {f : State → State} (hf : ∀ s : State, State.Acts i s (f s))
    (h : happensWantFirst f s = .next t) : State.Next i s t :=
  next_of_event id (.id i) hf (Host.Outcome.next.inj h)

theorem next_of_sampled {i : Instr} {s t : State} {f : State → State} (g : Pins → Pins) (hg : Tells i g)
    (hf : ∀ s : State, State.Acts i s (f s)) (h : happens f (s.updPins g) = .next t) : State.Next i s t :=
  next_of_event g hg hf (Host.Outcome.next.inj h)

/-- R129, R128, R134: what TRDY, TFLT and the pulse timer do never moves an asserted line. -/
theorem trdyAsserts_line (x : TargetPort) : x.trdyAsserts.line = x.line := by
  unfold TargetPort.trdyAsserts
  split <;> rfl

theorem trdyDeasserts_line (x : TargetPort) (left : Nat) (r : TargetRecord) : (x.trdyDeasserts left r).line = x.line := by
  unfold TargetPort.trdyDeasserts
  split <;> rfl

theorem pulseExpires_asserted (x : TargetPort) (tflt trdy : Bool) (r : TargetRecord) (h : x.line = .asserted) :
    (x.pulseExpires tflt trdy r).line = .asserted := by
  unfold TargetPort.pulseExpires
  split
  · dsimp only
    rw [if_neg (by simp [h])]
    exact h
  · exact h

/-- R162, R164, R166: a byte's row acts as the receiver does, where the byte is what the row names. -/
theorem classified_acts {i : Instr} (b : Byte) (s u : State) (h : u = s ∨ u = s.receiveByte b) : State.Acts i s u := by
  rcases h with rfl | rfl
  · exact .idle
  · exact .receiveByte b

/-- Every command but RESET_DEASSERT leads to one of the next states above. -/
theorem exec_next (i : Instr) (s t : State) (hi : ∀ a b, i ≠ .resetDeassert a b) (h : exec i s = .next t) : State.Next i s t := by
  cases i with
  | resetAssert => exact Host.Outcome.next.inj h ▸ .reset trivial
  | resetDeassert a b => exact absurd rfl (hi a b)
  | flashProbeAnswer p n => exact next_of_happens (fun _ => .probeEnds p n) h
  | flashProbeTimeout p => exact next_of_happens (fun _ => .probeEnds p 0) h
  | startupReadComplete data =>
    refine next_of_happens (fun s => ?_) h
    split
    · exact .loadEnds _
    · exact .idle
  | startupReadError => exact next_of_happens (fun _ => .loadEnds none) h
  | startupReadTimeout => exact next_of_happens (fun _ => .loadEnds none) h
  | cardInsert =>
    change execCardInsert s = _ at h
    unfold execCardInsert at h
    split at h
    · exact Host.Outcome.next.inj h ▸ .same
    · exact next_of_sampled _ (by exact ⟨fun _ => rfl, .inl trivial⟩) (fun _ => .insertCard) h
  | cardWakeComplete n => exact next_of_happens (fun _ => .wakeEnds (some n)) h
  | cardWakeError => exact next_of_happens (fun _ => .wakeEnds none) h
  | cardWakeTimeout => exact next_of_happens (fun _ => .wakeEnds none) h
  | cardRemove =>
    change execCardRemove s = _ at h
    unfold execCardRemove at h
    split at h
    · exact next_of_sampled _ (by exact ⟨fun _ => rfl, .inl trivial⟩) (fun _ => .removeCard) h
    · exact Host.Outcome.next.inj h ▸ .same
  | grant p => exact next_of_happens (fun _ => .grantPort p) h
  | readComplete p n data =>
    refine next_of_happens (fun s => ?_) h
    split
    · exact .readData ..
    · exact .idle
  | readDeviceError p n => exact next_of_happens (fun _ => .readFails p n) h
  | readTimerExpiry p n => exact next_of_happens (fun _ => .readFails p n) h
  | channelTake c => exact next_of_happens (fun _ => .takeHead c) h
  | backoffTimerExpiry t => exact next_of_happens (fun _ => .backoffEnds t) h
  | blockDeliveryComplete t tdone => exact next_of_sampled _ (by exact ⟨fun _ => rfl, .inl trivial⟩) (fun _ => .deliveryEnds t) h
  | trdyAssert t =>
    exact next_of_sampled _ (by exact ⟨fun _ => rfl, .inl trivial⟩)
      (fun _ => .line t _ fun x hx => (trdyAsserts_line x).trans hx) h
  | trdyDeassert t left =>
    exact next_of_sampled _ (by exact ⟨fun _ => rfl, .inl trivial⟩)
      (fun _ => .line t _ fun x hx => (trdyDeasserts_line x left _).trans hx) h
  | readyTimerExpiry t => exact next_of_happensWantFirst (fun _ => .readyExpires t) h
  | pulseTimerExpiry t => exact next_of_happens (fun _ => .line t _ fun x hx => pulseExpires_asserted x _ _ _ hx) h
  | tdoneAssert t => exact next_of_sampled _ (by exact ⟨fun _ => rfl, .inl trivial⟩) (fun _ => .tdoneTaken t) h
  | doneTimerExpiry t => exact next_of_happens (fun _ => .doneExpires t) h
  | tfltAssert t =>
    change execTfltAssert t s = _ at h
    unfold execTfltAssert at h
    split at h
    · exact Host.Outcome.next.inj h ▸ .same
    · exact next_of_event _ (by exact ⟨fun _ => rfl, .inl trivial⟩) (fun _ => .tfltAsserts t) (Host.Outcome.next.inj h)
  | tfltDeassert t =>
    exact next_of_sampled _ (by exact ⟨fun _ => rfl, .inl trivial⟩) (fun _ => .line t _ (by exact fun _ hx => hx)) h
  | faultTake t => exact next_of_happensWantFirst (fun _ => .pendingFault t) h
  | dataFrame b | requestFrame b | reportAck b | frameLengthDiscard b | frameCheckDiscard b =>
    refine next_of_happens (fun s => classified_acts b s _ ?_) h
    unfold State.receiveByte
    cases s.link.receiver.classify b <;> simp
  | hostBlockTimerExpiry t block => exact next_of_happens (fun _ => .wantedExpires t block) h
  | characterFault =>
    refine next_of_happens (fun s => ?_) h
    split
    · exact .idle
    · exact .discardCheck
  | gapTimerExpiry =>
    refine next_of_happens (fun s => ?_) h
    split
    · exact .gapExpires
    · exact .idle
  | lineBreak => exact next_of_happens (fun _ => .lineBreak) h
  | startOfSending => exact next_of_happens (fun _ => .startSending) h
  | frameSent => exact next_of_happens (fun _ => .endSending) h
  | resendTimerExpiry seq => exact next_of_happens (fun _ => .resendExpires seq) h
  | identify => exact next_of_happens (takeRequest_acts _ _ fun _ _ => sized_answers (.reply ..)) h
  | partStatus => exact next_of_happens (takeRequest_acts _ _ fun _ _ => sized_answers (.reply ..)) h
  | getSource => exact next_of_happens (request_acts _ _ _ fun _ _ _ => parsed_answers fun _ _ => .reply ..) h
  | setSource =>
    exact next_of_happens (request_acts _ _ _ fun _ _ _ => parsed_answers fun x hx =>
      .source x.1 x.2 (parseSetSource_inRange hx)) h
  | getTarget => exact next_of_happens (request_acts _ _ _ fun _ _ _ => parsed_answers fun _ _ => .reply ..) h
  | setTarget =>
    refine next_of_happens (request_acts _ _ _ fun r s _ => parsed_answers fun x hx => ?_) h
    split
    · exact .reply ..
    · rename_i hb
      exact .target x.1 x.2 (parseSetTarget_inRange hx) (by simpa using hb)
  | getSettings => exact next_of_happens (request_acts _ _ _ fun _ _ _ => .reply ..) h
  | setSettings =>
    refine next_of_happens (request_acts _ _ _ fun r s _ => parsed_answers fun x hx => ?_) h
    split
    · exact .reply ..
    · exact .settings x (parse_settings_inRange hx)
  | load => exact next_of_happens (request_acts _ _ _ fun r s hr => parsed_answers fun x _ => load_answers s r x hr) h
  | abort =>
    exact next_of_happensWantFirst (request_acts _ _ _ fun r s _ => parsed_answers fun x _ => abort_answers s r x) h
  | jobStatus => exact next_of_happens (request_acts _ _ _ fun r s _ => parsed_answers fun x _ => jobStatus_answers s r x) h
  | targetLineHold tdone => exact next_of_happens (lineCommand_acts (by trivial) .hold tdone) h
  | targetLineRelease tdone => exact next_of_happens (lineCommand_acts (by trivial) .release tdone) h
  | targetLineLeave tdone => exact next_of_happens (lineCommand_acts (by trivial) .leave tdone) h
  | peek => exact next_of_happens (request_acts _ _ _ fun _ _ _ => parsed_answers fun x _ => .peek x.1 x.2) h
  | rescan => exact next_of_happens (request_acts _ _ _ fun _ _ _ => parsed_answers fun x _ => .rescan x) h
  | saveSetup => exact next_of_happens (request_acts _ _ _ fun r s hr => saveSetup_answers s r hr) h
  | saveEraseDone =>
    refine next_of_happens (fun s => ?_) h
    unfold State.inStage
    split
    · split
      · exact .setStage _
      · exact .idle
    · exact .idle
  | saveEraseError | saveEraseTimeout =>
    refine next_of_happens (fun s => ?_) h
    unfold State.inStage
    split
    · split
      · exact .endSave false
      · exact .idle
    · exact .idle
  | saveWriteDone =>
    refine next_of_happens (fun s => ?_) h
    split
    · exact .setStage _
    · exact .setStage _
    · exact .idle
  | saveWriteError | saveWriteTimeout =>
    refine next_of_happens (fun s => ?_) h
    unfold State.failWrite
    split
    · exact .endSave false
    · exact .idle
  | saveVerifyReadDone data =>
    refine next_of_happens (fun s => ?_) h
    split
    · unfold State.verifyBlock
      split
      · split
        · split
          · exact .endSave true
          · exact .setStage _
        · exact .endSave false
      all_goals exact .idle
    · exact .idle
  | saveVerifyReadError | saveVerifyTimeout =>
    refine next_of_happens (fun s => ?_) h
    unfold State.failVerify
    split
    · exact .endSave false
    · exact .idle
  | restart => exact next_of_happens (takeRequest_acts _ _ fun _ _ => sized_answers .restart) h
  | unknownKind => exact next_of_happens (takeRequest_acts _ _ fun _ _ => gated_answers fun _ => .reply ..) h
  | byteReceived b => exact next_of_happens (fun _ => .receiveByte b) h

/-- RESET_DEASSERT begins start-up where the reset input was held, and nothing else. -/
theorem resetDeassert_cases {s t : State} {a b : Bool} (h : exec (.resetDeassert a b) s = .next t) :
    t = s ∨ (s.pins.reset = true ∧ t = (State.beginStartUp { s with
      pins := { s.pins with reset := false }, link := { s.link with rate := rateCode a b }, raised := [] }).flush tableOrder) := by
  change execResetDeassert a b s = _ at h
  unfold execResetDeassert at h
  split at h
  · rename_i hr
    rw [happens, event_running _ _ _ rfl] at h
    exact .inr ⟨hr, (Host.Outcome.next.inj h).symm⟩
  · exact .inl (Host.Outcome.next.inj h).symm

/-! ### Invariants of a step -/

/-- A property of the state that the waiting commands, the pins and the reports raised have no part in, and that the placing
of an event's reports keeps. -/
structure Settled (P : State → Prop) : Prop where
  pending : ∀ s q, P s → P { s with pending := q }
  pins : ∀ s g, P s → P (s.updPins g)
  raised : ∀ s l, P s → P { s with raised := l }
  flush : ∀ s order, P s → P (s.flush order)

/-- A settled property that every block at its reset value has, that every action keeps, and that RESET_DEASSERT keeps, is kept
by every step. -/
theorem Settled.step_keeps {P : State → Prop} (hP : Settled P) (hreset : ∀ s : State, P (s.powerOn 0))
    (hact : ∀ (i : Instr) (s u : State), s.pins.reset = false → P s → State.Acts i s u → P u) {s t : State}
    (hstart : ∀ q a b, exec (.resetDeassert a b) { s with pending := q } = .next t → P t) (hs : P s)
    (h : step s = .next t) : P t := by
  have hnext : ∀ (i : Instr) (s : State), P s → State.Next i s t → P t := by
    intro i s hs hn
    cases hn with
    | same => exact hs
    | reset => exact hP.pins _ _ (hreset s)
    | held g _ _ => exact hP.pins _ _ hs
    | event g hg hr order u ha =>
      exact hP.flush _ _ (hact i _ u (by simpa [hg.1] using hr) (hP.raised _ _ (hP.pins _ _ hs)) ha)
  unfold step at h
  split at h
  · exact Host.Outcome.next.inj h ▸ hs
  · rename_i i rest _
    by_cases hi : ∃ a b, i = .resetDeassert a b
    · obtain ⟨a, b, rfl⟩ := hi
      exact hstart rest a b h
    · exact hnext i _ (hP.pending _ _ hs) (exec_next i _ t (fun a b e => hi ⟨a, b, e⟩) h)

end Sys2Proof.Machine
end

section
/-! SUPPORT. The small steps of which every action is made: what an event does to the jobs, the ports and the Setup Store, one
step at a time, each with what holds of the state it is taken in; `K` is what is known of the jobs where the event begins. An invariant kept by every small step is kept by every
action. -/

namespace Sys2Proof.Machine

/-! ### The small steps -/

/-- A small step of an event. None touches the pins, the link, the Report Queue or the waiting commands. -/
inductive State.Does (K : Prop) (s : State) : State → Prop where
  | raise (r : ReportId) : Does K s (s.raise r)
  | line (t : Target) (f : TargetPort → TargetPort) (hf : ∀ x, x.line = .asserted → (f x).line = .asserted) :
      Does K s (s.updLine t f)
  | channel (c : Chan) (f : Channel → Channel) (hf : ∀ x, (f x).running = x.running) : Does K s (s.updChannel c f)
  | port (p : Port) (f : SourcePort → SourcePort) (hf : ∀ x, (f x).state = x.state ∧ (f x).reads = x.reads) :
      Does K s (s.updPort p f)
  | cancel (w : List Wanted) (hw : w.Sublist s.wanted) : Does K s (s.setWanted w)
  | takeHead (c : Chan) : Does K s (s.takeHead c)
  | backoffEnds (t : Target) : Does K s (s.backoffEnds t)
  | endAttempt (c : Chan) (t : Target) (o : AttemptOutcome) (hc : (s.channels.get c).running = some t) :
      Does K s (s.endAttempt c t o)
  | drained (c : Chan) (t : Target) (j : Job) (hc : (s.channels.get c).running = some t) (hj : s.job t = some j)
      (hs : j.state = .draining) : Does K s (s.drained c t)
  | placeClaim (c : Chan) (t : Target) (hc : (s.channels.get c).running = some t) : Does K s (s.placeClaim c t)
  | channelData (c : Chan) (k : Nat) (data : List Byte) : Does K s (s.channelData c k data)
  | blockDelivered (c : Chan) (t : Target) (hc : (s.channels.get c).running = some t) : Does K s (s.blockDelivered c t)
  | tdoneTaken (t : Target) : Does K s (s.tdoneTaken t)
  | takeFault (t : Target) : Does K s (s.takeFault t)
  | createJob (t : Target) (o : Origin) (relaxed : Bool) (only : Option Position) (hb : K → s.store.startup = .ready ∧ s.busy t = false) :
      Does K s (s.createJob t o relaxed only)
  | abortWaiting (t : Target) (j : Job) (hj : s.job t = some j) (hs : j.state = .queued ∨ j.state = .backoff) :
      Does K s (s.abortWaiting t)
  | abortDraining (t : Target) : Does K s (s.abortDraining t)
  | abortRunning (c : Chan) (t : Target) (hc : (s.channels.get c).running = some t) : Does K s (s.abortRunning c t)
  | lineAct (t : Target) (a : LineAction) (hr : s.store.startup = .ready) (hb : s.busy t = false) : Does K s (s.lineAct t a)
  | portState (p : Port) (x : PortState)
      (h : (s.ports.get p).state ≠ .ready ∨ (p ≠ .host ∧ (s.ports.get p).reads = []) ∨ x = .ready) :
      Does K s (s.setPortState p x)
  | cardGone : Does K s ((s.setPortState .card .empty).updPort .card fun x => { x with capacity := 0, reads := [] })
  | grantHost (w : Wanted) (h : s.mayGrant .host = true) : Does K s (s.setWanted (s.wanted ++ [w]))
  | grantRead (p : Port) (r : Read) (h : s.mayGrant p = true) :
      Does K s (s.updPort p fun x => { x with reads := x.reads ++ [r] })
  | readEnds (p : Port) (n : Nat) : Does K s (s.updPort p fun x => { x with reads := x.reads.eraseIdx n })
  | setSource (p : Position) (e : SourceEntry) (he : e.inRange = true) : Does K s (s.setSource p e)
  | setTarget (t : Target) (x : TargetRecord) (hx : x.inRange = true) (hb : s.busy t = false) : Does K s (s.setTarget t x)
  | setSettings (x : Settings) (hx : x.inRange = true) : Does K s (s.setSettings x)
  | store (f : SetupStore → SetupStore) (hs : (f s.store).setup = s.store.setup)
      (hu : (f s.store).startup = s.store.startup)
      (hv : ∀ v, (f s.store).save = some v →
        v.snapshot = s.store.setup ∨ ∃ w, s.store.save = some w ∧ v.snapshot = w.snapshot) : Does K s (s.updStore f)
  | startUp (f : SetupStore → SetupStore) (hu : s.store.startup ≠ .ready) (hv : (f s.store).save = s.store.save)
      (hs : s.store.setup.InRange → (f s.store).setup.InRange) : Does K s (s.updStore f)

/-- The completion of the request in service (R107, R108, R154). -/
def State.Completes (s u : State) : Prop := ∃ r w st data, s.link.handler = .serving r w ∧ u = s.reply r st data

/-- A small step, or the completion of the request in service. -/
def State.DoesOrCompletes (K : Prop) (s u : State) : Prop := State.Does K s u ∨ s.Completes u

/-- Small steps one after another. -/
abbrev State.Works (K : Prop) : State → State → Prop := Relation.ReflTransGen (State.DoesOrCompletes K)

variable {K : Prop}

theorem State.Does.works {s u : State} (h : State.Does K s u) : State.Works K s u := .single (.inl h)

theorem State.Completes.works {s u : State} (h : s.Completes u) : State.Works K s u := .single (.inr h)

theorem State.Works.ite {s a b : State} {p : Prop} [Decidable p] (ha : State.Works K s a) (hb : State.Works K s b) :
    State.Works K s (if p then a else b) := by
  split <;> assumption

/-! ### Completions of requests -/

theorem replyPeek_works (s : State) (p : Port) (st : Status) (data : List Byte) : State.Works K s (s.replyPeek p st data) := by
  unfold State.replyPeek
  split
  · rename_i req q a hh
    exact .ite (State.Completes.works ⟨req, _, _, _, hh, rfl⟩) .refl
  all_goals exact .refl

theorem replyRescan_works (s : State) (p : Port) (st : Status) : State.Works K s (s.replyRescan p st) := by
  unfold State.replyRescan
  split
  · rename_i req q hh
    exact .ite (State.Completes.works ⟨req, _, _, _, hh, rfl⟩) .refl
  all_goals exact .refl

theorem replySave_works (s : State) (st : Status) (data : List Byte) : State.Works K s (s.replySave st data) := by
  unfold State.replySave
  split
  · rename_i req hh
    exact State.Completes.works ⟨req, _, _, _, hh, rfl⟩
  all_goals exact .refl

/-! ### The channels' ends of reads -/

theorem channelOf_running {s : State} {t : Target} {c : Chan} (h : s.channelOf t = some c) :
    (s.channels.get c).running = some t := by
  unfold State.channelOf at h
  split at h
  · cases h; assumption
  · split at h
    · cases h; assumption
    · cases h

theorem putSlot_works (s : State) (c : Chan) (k : Nat) (x : Slot) : State.Works K s (s.putSlot c k x) :=
  (State.Does.channel c _ (by exact fun _ => rfl)).works

theorem channelFails_works (s : State) (c : Chan) (k : Nat) (o : AttemptOutcome) : State.Works K s (s.channelFails c k o) := by
  unfold State.channelFails
  split
  · exact .refl
  · rename_i t hc
    have hc' : ((s.putSlot c k .free).channels.get c).running = some t := by simpa using hc
    split
    · exact .refl
    · rename_i j hj
      dsimp only
      split
      · exact (putSlot_works ..).trans (State.Does.endAttempt c t o hc').works
      · exact (putSlot_works ..).trans (State.Does.endAttempt c t o hc').works
      · rename_i hs
        exact (putSlot_works ..).trans (State.Does.drained c t j hc' hj hs).works
      all_goals exact .refl

theorem endWanted_works (s : State) (t : Target) (tag : Byte) (block : Nat) (f : Chan → State → State)
    (hf : ∀ c x, State.Works K x (f c x)) : State.Works K s (s.endWanted t tag block f) := by
  unfold State.endWanted
  dsimp only
  refine .ite (.trans ?_ (State.Does.raise _).works) .refl
  have h := State.Does.works (K := K) (.cancel _ (List.filter_sublist (l := s.wanted)
    (p := fun w => !decide (w.target = t ∧ w.tag = tag ∧ w.block = block))))
  split
  · exact h.trans (hf _ _)
  · exact h

theorem dataFrame_works (s : State) (payload : List Byte) : State.Works K s (s.dataFrame payload) := by
  unfold State.dataFrame
  split
  · exact .refl
  · exact endWanted_works _ _ _ _ _ fun c x => (State.Does.channelData c _ _).works

theorem wantedExpires_works (s : State) (t : Target) (block : Nat) : State.Works K s (s.wantedExpires t block) := by
  unfold State.wantedExpires
  split
  · exact .refl
  · exact endWanted_works _ _ _ _ _ fun c x => channelFails_works ..

/-! ### The target's timers -/

theorem stopLane_line (x : TargetPort) : x.stopLane.line = x.line := rfl

theorem deliveryEnds_works (s : State) (t : Target) : State.Works K s (s.deliveryEnds t) := by
  unfold State.deliveryEnds
  dsimp only
  refine .ite (.trans (State.Does.line t (·.stopLane) fun _ h => h).works ?_) .refl
  split
  · rename_i c hc
    exact (State.Does.blockDelivered c t (channelOf_running hc)).works
  · exact .refl

theorem readyExpires_works (s : State) (t : Target) : State.Works K s (s.readyExpires t) := by
  unfold State.readyExpires
  dsimp only
  refine .ite (.trans (State.Does.line t (·.stopLane) fun _ h => h).works ?_) .refl
  split
  · rename_i c hc
    exact (State.Does.endAttempt c t .readyTimeout (channelOf_running hc)).works
  · exact .refl

theorem doneExpires_works (s : State) (t : Target) : State.Works K s (s.doneExpires t) := by
  unfold State.doneExpires
  dsimp only
  refine .ite (.trans (State.Does.line t (fun x => { x with done := none }) fun _ h => h).works ?_) .refl
  split
  · rename_i c hc
    exact (State.Does.endAttempt c t .doneTimeout (channelOf_running hc)).works
  · exact .refl

theorem tfltAsserts_works (s : State) (t : Target) : State.Works K s (s.tfltAsserts t) :=
  .ite (State.Does.takeFault t).works .refl

theorem pendingFault_works (s : State) (t : Target) : State.Works K s (s.pendingFault t) :=
  .ite (.trans (State.Does.line t (fun x => { x with faultPending := false }) fun _ h => h).works
    (State.Does.takeFault t).works) .refl

/-! ### Start-up -/

theorem autoStart_works (s : State) (hr : s.store.startup = .ready) (hb : K → ∀ t, s.job t = none) : State.Works K s s.autoStart := by
  have key : ∀ (ts : List Target) (s : State), ts.Nodup → s.store.startup = .ready → (K → ∀ t ∈ ts, s.job t = none) →
      State.Works K s (ts.foldl
        (fun x t => if (x.record t).present && (x.record t).autoStart then x.createJob t .start false none else x) s) := by
    intro ts
    induction ts with
    | nil => exact fun _ _ _ _ => .refl
    | cons t ts ih =>
      intro s hn hr hb
      obtain ⟨ht, hn⟩ := List.nodup_cons.1 hn
      rw [List.foldl_cons]
      split
      · obtain ⟨hs, -, ho⟩ := createJob_job s t .start false none
        have hbusy : K → s.busy t = false := fun k => by simp [State.busy, hb k t (by simp)]
        refine .trans (State.Does.createJob t .start false none fun k => ⟨hr, hbusy k⟩).works
          (ih _ hn (by rw [hs]; exact hr) ?_)
        intro k u hu
        rw [ho u (by rintro rfl; exact ht hu)]
        exact hb k u (by simp [hu])
      · exact ih s hn hr fun k u hu => hb k u (by simp [hu])
  exact key allTargets s (by decide) hr fun k t _ => hb k t

/-- R149: start-up ends in READY, where no target has a job yet. -/
theorem becomeReady_works (s : State) (hu : s.store.startup ≠ .ready) (hb : K → ∀ t, s.job t = none) :
    State.Works K s s.becomeReady := by
  have h1 : State.Works K s (s.updStore fun x => { x with startup := .ready, loads := [] }) :=
    (State.Does.startUp _ hu (by exact rfl) (by exact id)).works
  exact (h1.trans (State.Does.raise .part).works).trans (autoStart_works _ rfl hb)

theorem default_inRange : (∀ p, (Setup.default.sources.get p).inRange = true)
    ∧ (∀ t, (Setup.default.targets.get t).inRange = true) ∧ Setup.default.settings.inRange = true :=
  ⟨fun p => by cases p <;> decide, fun t => by cases t <;> decide, by decide⟩

theorem parse_source_getD_inRange (bs : List Byte) : ((SourceEntry.parse bs).getD .default).inRange = true := by
  cases h : SourceEntry.parse bs with
  | none => decide
  | some e => exact parse_source_inRange h

theorem parse_target_getD_inRange (bs : List Byte) : ((TargetRecord.parse bs).getD .default).inRange = true := by
  cases h : TargetRecord.parse bs with
  | none => decide
  | some x => exact parse_target_inRange h

/-- R148: a setup loaded from a copy is in range, whatever the copy's bytes. -/
theorem loadSetup_inRange (bs : List Byte) : (loadSetup bs).InRange :=
  ⟨fun p => by cases p <;> exact parse_source_getD_inRange _, fun t => by cases t <;> exact parse_target_getD_inRange _,
    load_settings_inRange _⟩

/-- R147: judging the copies leaves the start-up state and any save, and the setup it chooses is in range. -/
theorem judge_store (x : SetupStore) (loads : List (Option (List Byte))) :
    (x.judge loads).startup = x.startup ∧ (x.judge loads).save = x.save
      ∧ (x.setup.InRange → (x.judge loads).setup.InRange) := by
  unfold SetupStore.judge
  dsimp only
  split
  · split <;> exact ⟨rfl, rfl, fun _ => loadSetup_inRange _⟩
  · exact ⟨rfl, rfl, fun _ => loadSetup_inRange _⟩
  · exact ⟨rfl, rfl, fun _ => loadSetup_inRange _⟩
  · exact ⟨rfl, rfl, id⟩

theorem nextLoads_works (addrs : List Nat) (s : State) (hu : s.store.startup ≠ .ready) (hb : K → ∀ t, s.job t = none) :
    State.Works K s (State.nextLoads addrs s) := by
  induction addrs generalizing s with
  | nil =>
    obtain ⟨h1, h2, h3⟩ := judge_store s.store s.store.loads
    exact .trans (State.Does.startUp (fun x => x.judge x.loads) hu h2 h3).works
      (becomeReady_works _ (by rw [State.updStore_store, h1]; exact hu) hb)
  | cons a rest ih =>
    unfold State.nextLoads
    exact .ite .refl (.trans (State.Does.startUp _ hu (by exact rfl) (by exact id)).works (ih _ hu hb))

theorem loadEnds_works (s : State) (data : Option (List Byte)) (hb : K → s.store.startup ≠ .ready → ∀ t, s.job t = none) :
    State.Works K s (s.loadEnds data) := by
  unfold State.loadEnds
  split
  · rename_i hu
    have hu' : s.store.startup ≠ .ready := by simp [hu]
    exact .trans (State.Does.startUp _ hu' (by exact rfl) (by exact id)).works (nextLoads_works _ _ hu' (fun k => hb k hu'))
  · exact .refl

theorem probesEnd_works (s : State) (hb : K → s.store.startup ≠ .ready → ∀ t, s.job t = none) : State.Works K s s.probesEnd := by
  unfold State.probesEnd
  split
  · rename_i h
    have hu : s.store.startup ≠ .ready := by simp [h.1]
    split
    · exact .trans (State.Does.startUp _ hu (by exact rfl) (by exact id)).works (nextLoads_works _ _ (by simp) (fun k => hb k hu))
    · exact .trans (State.Does.startUp _ hu (by exact rfl) (by exact id)).works (becomeReady_works _ hu (fun k => hb k hu))
  · exact .refl

end Sys2Proof.Machine
end

section
/-! SUPPORT. The actions of the ports, of a save and of the requests as small steps; and the rule by which an invariant of the
jobs, the ports and the Setup Store is kept by every step once every small step keeps it. -/

namespace Sys2Proof.Machine

variable {K : Prop}

/-! ### Claims answered with NO PORT -/

theorem refuseChannel_works (s : State) (p : Port) (c : Chan) : State.Works K s (s.refuseChannel p c) := by
  unfold State.refuseChannel
  refine .ite ?_ .refl
  split
  · rename_i t hc
    exact .trans (State.Does.channel c _ (by exact fun _ => rfl)).works
      (State.Does.endAttempt c t .noPort (by simpa using hc)).works
  · exact .refl

theorem refuseClaims_works (s : State) (p : Port) : State.Works K s (s.refuseClaims p) :=
  ((refuseChannel_works s p .a).trans (refuseChannel_works _ p .b)).trans (replyPeek_works ..)

theorem refuseChannel_frame (s : State) (p : Port) (c : Chan) : SearchFrame s (s.refuseChannel p c) := by
  unfold State.refuseChannel
  refine .ite ?_ (.refl s)
  split
  · exact (updChannel_frame ..).trans (endAttempt_frame ..)
  · exact .refl s

/-- An answer to the PEEK in service touches the link alone. -/
theorem replyPeek_link (s : State) (p : Port) (st : Status) (data : List Byte) :
    ∃ l, s.replyPeek p st data = { s with link := l } := by
  unfold State.replyPeek
  split
  · split
    · exact ⟨_, rfl⟩
    · exact ⟨_, rfl⟩
  all_goals exact ⟨_, rfl⟩

/-- An answer to the RESCAN in service touches the link alone. -/
theorem replyRescan_link (s : State) (p : Port) (st : Status) : ∃ l, s.replyRescan p st = { s with link := l } := by
  unfold State.replyRescan
  split
  · split
    · exact ⟨_, rfl⟩
    · exact ⟨_, rfl⟩
  all_goals exact ⟨_, rfl⟩

theorem refuseChannel_jobs (s : State) (p : Port) (c : Chan) (h : ∀ t, s.job t = none) : (s.refuseChannel p c).jobs = s.jobs := by
  unfold State.refuseChannel
  split
  · split
    · rename_i t _
      rw [State.endAttempt, show State.job (s.updChannel c _) t = none from h t]
      rfl
    · rfl
  · rfl

/-- Claims answered with NO PORT leave the start-up state, and make no job where there is none. -/
theorem refuseClaims_jobs (s : State) (p : Port) :
    (s.refuseClaims p).store.startup = s.store.startup
      ∧ ((∀ t, s.job t = none) → ∀ t, (s.refuseClaims p).job t = none) := by
  obtain ⟨l, hl⟩ := replyPeek_link ((s.refuseChannel p .a).refuseChannel p .b) p .noPort []
  unfold State.refuseClaims State.refusePeek
  rw [hl]
  constructor
  · exact ((refuseChannel_frame s p .a).trans (refuseChannel_frame _ p .b)).startup
  · intro h t
    have h1 : ∀ t, (s.refuseChannel p .a).job t = none := fun t => by
      rw [State.job, refuseChannel_jobs s p .a h]; exact h t
    show ((State.refuseChannel _ p .b).jobs.get t).job = none
    rw [refuseChannel_jobs _ p .b h1]
    exact h1 t

/-! ### Probes, wakes and the card's removal -/

theorem setPortState_store (s : State) (p : Port) (x : PortState) :
    (s.setPortState p x).store = s.store ∧ (s.setPortState p x).jobs = s.jobs := by
  unfold State.setPortState
  split <;> exact ⟨rfl, rfl⟩

theorem setCapacity_works (s : State) (p : Port) (n : Nat) : State.Works K s (s.setCapacity p n) :=
  (State.Does.port p _ (by exact fun _ => ⟨rfl, rfl⟩)).works

theorem probeEnds_works (s : State) (p : Port) (n : Nat) (hb : K → s.store.startup ≠ .ready → ∀ t, s.job t = none) :
    State.Works K s (s.probeEnds p n) := by
  unfold State.probeEnds
  split
  · rename_i hp
    have hp' : (s.ports.get p).state ≠ .ready := by simp [hp]
    have last : ∀ s1 : State, State.Works K s s1 → s1.store.startup = s.store.startup →
        ((∀ t, s.job t = none) → ∀ t, s1.job t = none) → State.Works K s (s1.replyRescan p .ok).probesEnd := by
      intro s1 h1 h2 h3
      refine (h1.trans (replyRescan_works ..)).trans (probesEnd_works _ ?_)
      obtain ⟨l, hl⟩ := replyRescan_link s1 p .ok
      rw [hl]
      exact fun k hu => h3 (hb k (by rw [← h2]; exact hu))
    have stateSet : ∀ x, State.Works K s (s.setPortState p x) := fun x => (State.Does.portState p x (.inl hp')).works
    dsimp only
    split
    · obtain ⟨hst, hjb⟩ := setPortState_store s p .absent
      obtain ⟨h1, h2⟩ := refuseClaims_jobs ((s.setPortState p .absent).setCapacity p 0) p
      refine last _ (((stateSet _).trans (setCapacity_works ..)).trans (refuseClaims_works ..)) ?_ fun h => h2 ?_
      · rw [h1, State.setCapacity_store, hst]
      · intro t
        rw [State.job, State.setCapacity_jobs, hjb]
        exact h t
    · obtain ⟨hst, hjb⟩ := setPortState_store s p .ready
      refine last _ ((stateSet _).trans (setCapacity_works ..)) ?_ ?_
      · rw [State.setCapacity_store, hst]
      · intro h t
        rw [State.job, State.setCapacity_jobs, hjb]
        exact h t
  · exact .refl

theorem wakeEnds_works (s : State) (n : Option Nat) : State.Works K s (s.wakeEnds n) := by
  unfold State.wakeEnds
  split
  · rename_i hp
    have stateSet : ∀ x, State.Works K s (s.setPortState .card x) := fun x =>
      (State.Does.portState .card x (.inl (by simp [hp]))).works
    refine .trans ?_ (replyRescan_works ..)
    split
    · exact (stateSet _).trans (setCapacity_works ..)
    · exact ((stateSet _).trans (setCapacity_works ..)).trans (refuseClaims_works ..)
  · exact .refl

theorem insertCard_works (s : State) : State.Works K s s.insertCard := by
  unfold State.insertCard
  split
  · rename_i h
    exact (State.Does.portState .card .waking (.inl (by simp [h]))).works
  · exact .refl

theorem removeFrom_works (s : State) (gone : List Read) (c : Chan) : State.Works K s (s.removeFrom gone c) := by
  unfold State.removeFrom
  dsimp only
  refine .ite ?_ (refuseChannel_works ..)
  split
  · exact .refl
  · rename_i t hc
    split
    · exact .refl
    · rename_i j hj
      have h1 : State.Works K s (s.updChannel c fun x => { x with slots := x.slots.map fun y => if y.isInFlight then .free else y }) :=
        (State.Does.channel c _ (by exact fun _ => rfl)).works
      split
      · exact h1.trans (State.Does.endAttempt c t .noPort (by simpa using hc)).works
      · exact h1.trans (State.Does.endAttempt c t .noPort (by simpa using hc)).works
      · rename_i hs
        exact h1.trans (State.Does.drained c t j (by simpa using hc) (by exact hj) hs).works
      all_goals exact h1

theorem removeCard_works (s : State) : State.Works K s s.removeCard :=
  ((((State.Does.cardGone (s := s)).works.trans (removeFrom_works ..)).trans (removeFrom_works ..)).trans
    (replyPeek_works ..)).trans (replyRescan_works ..)

/-! ### Grants and completions -/

/-- Whether a port may grant is not changed by what a grant does to its channel and its last grantee. -/
theorem mayGrant_granting (s : State) (p : Port) (c : Chan) (f : Channel → Channel) :
    State.mayGrant ((s.updChannel c f).updPort p fun x => { x with lastGrantee := c }) p = s.mayGrant p := by
  cases p <;> rfl

theorem grantChannel_works (s : State) (p : Port) (c : Chan) (hm : s.mayGrant p = true) :
    State.Works K s (s.grantChannel p c) := by
  unfold State.grantChannel
  split
  · rename_i t k hc _
    split
    · exact .refl
    · dsimp only
      set s1 := (s.updChannel c fun x =>
          { x with claim := none, slots := reserve k.block x.slots, issue := k.block + 1 }).updPort p fun x =>
        { x with lastGrantee := c } with hs1
      have h1 : State.Works K s s1 := .trans (State.Does.channel c _ (by exact fun _ => rfl)).works
        (State.Does.port p _ (by exact fun _ => ⟨rfl, rfl⟩)).works
      have hm1 : s1.mayGrant p = true := (mayGrant_granting s p c _).trans hm
      have hc1 : (s1.channels.get c).running = some t := by simp [hs1, hc]
      split
      · rename_i hp
        subst hp
        exact ((h1.trans (State.Does.grantHost _ hm1).works).trans (State.Does.raise _).works).trans
          (State.Does.placeClaim c t (by exact hc1)).works
      · exact State.Works.ite (h1.trans (channelFails_works ..))
          ((h1.trans (State.Does.grantRead p _ hm1).works).trans (State.Does.placeClaim c t (by exact hc1)).works)
  all_goals exact .refl

theorem grantPort_works (s : State) (p : Port) : State.Works K s (s.grantPort p) := by
  unfold State.grantPort
  split
  · rename_i hm
    split
    · exact grantChannel_works s p _ hm
    · split
      · exact State.Works.ite (replyPeek_works ..) (State.Does.grantRead p _ hm).works
      · exact .refl
  · exact .refl

theorem setStage_works (s : State) (g : SaveStage) : State.Works K s (s.setStage g) :=
  State.Does.works (.store _ rfl rfl (by
    intro v hv
    obtain ⟨w, hw, rfl⟩ := Option.map_eq_some_iff.1 hv
    exact .inr ⟨w, hw, rfl⟩))

theorem endSave_works (s : State) (ok : Bool) : State.Works K s (s.endSave ok) := by
  unfold State.endSave
  split
  · exact .refl
  · rename_i v _
    have h1 : State.Works K s (s.updStore (·.endSave v ok)) :=
      State.Does.works (.store _ (by cases ok <;> rfl) (by cases ok <;> rfl) (by cases ok <;> simp [SetupStore.endSave]))
    exact .trans ((h1.trans (State.Does.portState .flash0 .ready (.inr (.inr rfl))).works).trans (State.Does.raise _).works)
      (State.Works.ite (replySave_works ..) (replySave_works ..))

theorem writerTakes_works (s : State) : State.Works K s s.writerTakes := by
  unfold State.writerTakes
  split
  · exact .refl
  · split
    · rename_i h
      exact .trans (State.Does.portState .flash0 .writing (.inr (.inl ⟨by simp, h.2.2⟩))).works
        (State.Works.ite (setStage_works ..) (endSave_works ..))
    · exact .refl

theorem completeRead_works (s : State) (p : Port) (n : Nat) (f : Reader → State → State)
    (hf : ∀ r x, State.Works K x (f r x)) : State.Works K s (s.completeRead p n f) := by
  unfold State.completeRead
  split
  · exact .refl
  · rename_i r _
    exact .trans (State.Does.readEnds p n).works (.trans (hf r.reader _) (State.Works.ite (writerTakes_works _) .refl))

theorem handData_works (p : Port) (data : List Byte) (r : Reader) (s : State) :
    State.Works K s (State.handData p data r s) := by
  cases r with
  | chan c k => exact (State.Does.channelData c k data).works
  | peek => exact replyPeek_works ..

theorem handError_works (p : Port) (r : Reader) (s : State) : State.Works K s (State.handError p r s) := by
  cases r with
  | chan c k => exact channelFails_works ..
  | peek => exact replyPeek_works ..

/-! ### Requests -/

/-- Small steps that complete no request. -/
abbrev State.QuietWorks (K : Prop) : State → State → Prop := Relation.ReflTransGen (State.Does K)

/-- R170: what the handler makes of a request: small steps and its reply at once, or its work begun. -/
def State.AnswersBy (i : Instr) (K : Prop) (s : State) (r : Request) (u : State) : Prop :=
  ∃ g s1, Tells i g ∧ State.QuietWorks K (s.updPins g) s1
    ∧ ((∃ st data restart, u = s1.updLink (·.respond r st data restart)) ∨ ∃ w, State.Works K (s1.serve r w) u)

theorem answersBy_reply {i : Instr} {s s1 : State} {r : Request} (h : State.QuietWorks K s s1) (st : Status) (data : List Byte) :
    State.AnswersBy i K s r (s1.reply r st data) :=
  ⟨id, s1, .id i, h, .inl ⟨st, data, false, rfl⟩⟩

theorem answersBy_serve {i : Instr} {s s1 u : State} {r : Request} (w : Work) (h : State.QuietWorks K s s1)
    (hu : State.Works K (s1.serve r w) u) : State.AnswersBy i K s r u :=
  ⟨id, s1, .id i, h, .inr ⟨w, hu⟩⟩

theorem not_inUse {s : State} {p : Port} (h : ¬ s.portInUse p = true) : (s.ports.get p).reads = [] := by
  simp only [State.portInUse, Bool.or_eq_true, Bool.not_eq_true', not_or] at h
  simpa using h.1.1

theorem rescan_answersBy (i : Instr) (s : State) (r : Request) (p : Port) : State.AnswersBy i K s r (s.rescan r p) := by
  have now : ∀ st, State.AnswersBy i K s r (s.reply r st []) := fun st => answersBy_reply .refl st []
  have starts : ∀ x, p ≠ .host → ¬ s.portInUse p = true → State.QuietWorks K s (s.setPortState p x) := fun x hp hu =>
    .single (.portState p x (.inr (.inl ⟨hp, not_inUse hu⟩)))
  unfold State.rescan
  split
  · split
    · exact now _
    · exact answersBy_serve _ (starts _ (by simp) ‹_›) .refl
  · split
    · exact now _
    · exact answersBy_serve _ (starts _ (by simp) ‹_›) .refl
  · split
    · exact now _
    · exact now _
    all_goals
      split
      · exact now _
      · exact answersBy_serve _ ((starts _ (by simp) ‹_›).tail (.port .card _ (by exact fun _ => ⟨rfl, rfl⟩))) .refl
  · exact now _

theorem State.Answers.by {i : Instr} {s u : State} {r : Request} (h : State.Answers i s r u) : State.AnswersBy i K s r u := by
  cases h with
  | reply st data => exact answersBy_reply .refl st data
  | source p e he => exact answersBy_reply (.single (.setSource p e he)) _ _
  | target t x hx hb => exact answersBy_reply (.single (.setTarget t x hx hb)) _ _
  | settings x hx => exact answersBy_reply (.single (.setSettings x hx)) _ _
  | load t relaxed only data hr hb =>
    exact answersBy_reply (.single (.createJob t .host relaxed only fun _ => ⟨hr, hb⟩)) _ _
  | abortWaiting t j data hj hs => exact answersBy_reply (.single (.abortWaiting t j hj hs)) _ _
  | abortDraining t data => exact answersBy_reply (.single (.abortDraining t)) _ _
  | abortRunning c t data hc => exact answersBy_reply (.single (.abortRunning c t (channelOf_running hc))) _ _
  | line g hg t a data hr hb =>
    exact ⟨g, _, hg, .single (.lineAct t a hr hb), .inl ⟨.ok, data, false, rfl⟩⟩
  | peek p a => exact answersBy_serve (.peek p a) .refl (State.Works.ite (replyPeek_works ..) .refl)
  | rescan p => exact rescan_answersBy i s r p
  | save _ =>
    refine answersBy_serve .save (.single (.store _ rfl rfl ?_)) (writerTakes_works _)
    intro v hv
    cases hv
    exact .inl rfl
  | restart => exact ⟨id, s, .id i, .refl, .inl ⟨_, _, _, rfl⟩⟩

/-! ### Every action -/

/-- An action is small steps, or one of the events of the link and of the Report Queue, or the take of a request. -/
inductive State.ActsBy (i : Instr) (K : Prop) (s : State) : State → Prop where
  | works (u : State) (h : State.Works K s u) : ActsBy i K s u
  | receives (b : Byte) : ActsBy i K s (s.receiveByte b)
  | discards : ActsBy i K s s.discardCheck
  | gapExpires : ActsBy i K s (s.updLink fun x => { x.hunt with gapDiscards := countUp x.gapDiscards })
  | breaks : ActsBy i K s ((s.updLink fun x => { x.hunt with cache := [] }).updReports (·.atBreak))
  | startsSending : ActsBy i K s s.startSending
  | endsSending : ActsBy i K s s.endSending
  | resendExpires (seq : Byte) : ActsBy i K s (s.updReports (·.expire seq))
  | takes (r : Request) (rest : List Request) (u : State) (hi : s.link.handler = .idle)
      (hl : s.link.replies.length < 4) (hq : s.link.queue = r :: rest)
      (ha : State.AnswersBy i K { s with link := { s.link with queue := rest } } r u) : ActsBy i K s u

theorem State.Acts.by {i : Instr} {s u : State} (h : State.Acts i s u)
    (hb : K → s.store.startup ≠ .ready → ∀ t, s.job t = none) : State.ActsBy i K s u := by
  cases h with
  | idle => exact .works _ .refl
  | takeHead c => exact .works _ (State.Does.takeHead c).works
  | backoffEnds t => exact .works _ (State.Does.backoffEnds t).works
  | deliveryEnds t => exact .works _ (deliveryEnds_works s t)
  | line t f hf => exact .works _ (State.Does.line t f hf).works
  | readyExpires t => exact .works _ (readyExpires_works s t)
  | tdoneTaken t => exact .works _ (State.Does.tdoneTaken t).works
  | doneExpires t => exact .works _ (doneExpires_works s t)
  | tfltAsserts t => exact .works _ (tfltAsserts_works s t)
  | pendingFault t => exact .works _ (pendingFault_works s t)
  | probeEnds p n => exact .works _ (probeEnds_works s p n hb)
  | wakeEnds n => exact .works _ (wakeEnds_works s n)
  | insertCard => exact .works _ (insertCard_works s)
  | removeCard => exact .works _ (removeCard_works s)
  | grantPort p => exact .works _ (grantPort_works s p)
  | readData p n data => exact .works _ (completeRead_works s p n _ fun r x => handData_works p data r x)
  | readFails p n => exact .works _ (completeRead_works s p n _ fun r x => handError_works p r x)
  | wantedExpires t block => exact .works _ (wantedExpires_works s t block)
  | receiveByte b => exact .receives b
  | discardCheck => exact .discards
  | gapExpires => exact .gapExpires
  | lineBreak => exact .breaks
  | startSending => exact .startsSending
  | endSending => exact .endsSending
  | resendExpires seq => exact .resendExpires seq
  | request r rest u hi hl hq ha => exact .takes r rest u hi hl hq ha.by
  | loadEnds data => exact .works _ (loadEnds_works s data hb)
  | setStage g => exact .works _ (setStage_works s g)
  | endSave ok => exact .works _ (endSave_works s ok)

/-! ### The rule for invariants of jobs, ports and the Setup Store -/

/-- A property of the state in which the pins, the link, the Report Queue, the reports raised and the waiting commands have no
part. -/
structure Inner (P : State → Prop) : Prop where
  pending : ∀ s q, P s → P { s with pending := q }
  pins : ∀ s g, P s → P (s.updPins g)
  raised : ∀ s l, P s → P { s with raised := l }
  reports : ∀ s q, P s → P { s with reports := q }
  link : ∀ s l, P s → P { s with link := l }

theorem Inner.settled {P : State → Prop} (hP : Inner P) : Settled P where
  pending := hP.pending
  pins := hP.pins
  raised := hP.raised
  flush s order h := by
    obtain ⟨es, he⟩ := flush_eq s order
    rw [he]
    exact hP.raised _ [] (hP.reports _ { s.reports with entries := es } h)

theorem Inner.and {P Q : State → Prop} (hP : Inner P) (hQ : Inner Q) : Inner fun s => P s ∧ Q s where
  pending s q h := ⟨hP.pending s q h.1, hQ.pending s q h.2⟩
  pins s g h := ⟨hP.pins s g h.1, hQ.pins s g h.2⟩
  raised s l h := ⟨hP.raised s l h.1, hQ.raised s l h.2⟩
  reports s q h := ⟨hP.reports s q h.1, hQ.reports s q h.2⟩
  link s l h := ⟨hP.link s l h.1, hQ.link s l h.2⟩

section Keeps
variable {P : State → Prop} (hP : Inner P) (hdoes : ∀ s u, P s → State.Does K s u → P u)
include hP hdoes

theorem Inner.works_keeps {s u : State} (hs : P s) (h : State.Works K s u) : P u := by
  induction h with
  | refl => exact hs
  | tail _ h ih =>
    rcases h with h | ⟨r, w, st, data, -, rfl⟩
    · exact hdoes _ _ ih h
    · exact hP.link _ _ ih

theorem Inner.quietWorks_keeps {s u : State} (hs : P s) (h : State.QuietWorks K s u) : P u :=
  hP.works_keeps hdoes hs (h.lift id fun _ _ => .inl)

theorem Inner.answersBy_keeps {i : Instr} {s u : State} {r : Request} (hs : P s) (h : State.AnswersBy i K s r u) : P u := by
  obtain ⟨g, s1, -, h1, ⟨st, data, restart, rfl⟩ | ⟨w, h2⟩⟩ := h
  · exact hP.link _ _ (hP.quietWorks_keeps hdoes (hP.pins _ g hs) h1)
  · exact hP.works_keeps hdoes (hP.link _ _ (hP.quietWorks_keeps hdoes (hP.pins _ g hs) h1)) h2

theorem Inner.receiveByte_keeps (b : Byte) {s : State} (hs : P s) : P (s.receiveByte b) := by
  have hg : P s.goodFrame := hP.reports _ _ (hP.link _ _ hs)
  unfold State.receiveByte
  split
  · exact hP.link _ _ hs
  · exact hP.link _ _ hs
  · exact hP.link _ _ hs
  · exact hP.works_keeps hdoes hg (dataFrame_works _ _)
  · unfold State.takeAck
    split
    · exact hP.reports _ _ hg
    all_goals exact hg
  · exact hP.link _ _ hg

omit hdoes in
theorem Inner.endSending_keeps (hstart : ∀ (s : State) (rate : Fin 4), P (s.powerOn rate).beginStartUp) {s : State} (hs : P s) :
    P s.endSending := by
  unfold State.endSending
  split
  · exact hs
  · split
    · split
      · exact hstart s _
      · exact hP.link _ _ hs
    · exact hP.link _ _ hs
  · exact hP.reports _ _ (hP.link _ _ hs)

omit hdoes in
theorem Inner.startSending_keeps {s : State} (hs : P s) : P s.startSending := by
  unfold State.startSending
  split
  · exact hP.link _ _ hs
  · split
    · exact hP.reports _ _ (hP.link _ _ hs)
    · exact hs
  all_goals exact hs

/-- An invariant of jobs, ports and the Setup Store that holds after power-on and at the start of start-up, and that every small
step keeps, is kept by every step. -/
theorem Inner.step_keeps (hreset : ∀ s : State, P (s.powerOn 0))
    (hstart : ∀ (s : State) (rate : Fin 4), P (s.powerOn rate).beginStartUp)
    (hK : ∀ s, P s → K → s.store.startup ≠ .ready → ∀ t, s.job t = none) {s t : State}
    (hd : ∀ q a b, exec (.resetDeassert a b) { s with pending := q } = .next t → P t) (hs : P s)
    (h : step s = .next t) : P t := by
  refine hP.settled.step_keeps hreset ?_ hd hs h
  intro i s u _ hs ha
  cases ha.by (hK s hs) with
  | works u h => exact hP.works_keeps hdoes hs h
  | receives b => exact hP.receiveByte_keeps hdoes b hs
  | discards => exact hP.link _ _ hs
  | gapExpires => exact hP.link _ _ hs
  | breaks => exact hP.reports _ _ (hP.link _ _ hs)
  | startsSending => exact hP.startSending_keeps hs
  | endsSending => exact hP.endSending_keeps hstart hs
  | resendExpires seq => exact hP.reports _ _ hs
  | takes r rest u hi hl hq ha => exact hP.answersBy_keeps hdoes (hP.link _ _ hs) ha

omit hdoes in
/-- RESET_DEASSERT of a part that has been held begins start-up from the values after power-on reset. -/
theorem Inner.resetDeassert_keeps (hstart : ∀ (s : State) (rate : Fin 4), P (s.powerOn rate).beginStartUp) {s t : State}
    (hheld : s.HeldOk) (hs : P s) (q : List Instr) (a b : Bool)
    (h : exec (.resetDeassert a b) { s with pending := q } = .next t) : P t := by
  rcases resetDeassert_cases h with rfl | ⟨hr, rfl⟩
  · exact hP.pending _ _ hs
  · refine hP.settled.flush _ _ ?_
    rw [hheld hr]
    exact hstart { State.reset with pins := { s.pins with reset := false }, pending := q } (rateCode a b)

end Keeps

end Sys2Proof.Machine
end

section
/-! SUPPORT. What work on one target's job on one channel can touch: the target's entry of the Job Table, its line and its
version floor, the channel, the wait queues, the target's wanted blocks and the reports raised. Said once for each operation of
the search and of the channels; what they leave alone follows. -/

namespace Sys2Proof.Machine

/-- One change that work on target `t` on channel `c` can make. -/
inductive State.Touches (c : Chan) (t : Target) (s : State) : State → Prop where
  | slot (f : JobSlot → JobSlot) : Touches c t s (s.updSlot t f)
  | channel (f : Channel → Channel) : Touches c t s (s.updChannel c f)
  | line (f : TargetPort → TargetPort) : Touches c t s (s.updLine t f)
  | enterQueue : Touches c t s (s.enterQueue t)
  | cancel : Touches c t s (s.setWanted (s.wanted.filter (·.target ≠ t)))
  | raise (r : ReportId) : Touches c t s (s.raise r)
  | raiseFloor (x : StreamParams) : Touches c t s (s.raiseFloor t x)

/-- Such changes one after another. -/
abbrev State.Tries (c : Chan) (t : Target) : State → State → Prop := Relation.ReflTransGen (State.Touches c t)

variable {c : Chan} {t : Target} {s : State}

theorem State.Tries.ite {a b : State} {p : Prop} [Decidable p] (ha : State.Tries c t s a) (hb : State.Tries c t s b) :
    State.Tries c t s (if p then a else b) := by
  split <;> assumption

/-! ### The updates of one block -/

theorem updSlot_tries (f : JobSlot → JobSlot) : State.Tries c t s (s.updSlot t f) := .single (.slot f)

theorem updJob_tries (f : Job → Job) : State.Tries c t s (s.updJob t f) := .single (.slot _)

theorem updChannel_tries (f : Channel → Channel) : State.Tries c t s (s.updChannel c f) := .single (.channel f)

theorem updLine_tries (f : TargetPort → TargetPort) : State.Tries c t s (s.updLine t f) := .single (.line f)

theorem assertLine_tries : State.Tries c t s (s.assertLine t) := .single (.line _)

theorem releaseLine_tries : State.Tries c t s (s.releaseLine t) := .single (.line _)

theorem enterQueue_tries : State.Tries c t s (s.enterQueue t) := .single .enterQueue

theorem raise_tries (r : ReportId) : State.Tries c t s (s.raise r) := .single (.raise r)

theorem setClaim_tries (p : Port) (k : Nat) : State.Tries c t s (s.setClaim c p k) := .single (.channel _)

theorem putSlot_tries (k : Nat) (x : Slot) : State.Tries c t s (s.putSlot c k x) := .single (.channel _)

theorem dropHead_tries : State.Tries c t s (s.dropHead t) := updJob_tries _

theorem leaveChannel_tries : State.Tries c t s (s.leaveChannel c) := .single (.channel _)

theorem finishJob_tries (x : JobState) (o : FinalOutcome) : State.Tries c t s (s.finishJob t x o) :=
  (updJob_tries _).trans (raise_tries _)

theorem recordOutcome_tries (o : AttemptOutcome) : State.Tries c t s (s.recordOutcome t o) :=
  (updJob_tries _).trans (raise_tries _)

theorem setJobState_tries (x : JobState) : State.Tries c t s (s.setJobState t x) := by
  unfold State.setJobState
  split
  · exact .refl
  · exact .ite .refl ((updJob_tries _).trans (raise_tries _))

theorem setCondition_tries (x : Condition) : State.Tries c t s (s.setCondition t x) :=
  .ite .refl ((updSlot_tries _).trans (raise_tries _))

/-! ### The search -/

theorem createJob_tries (o : Origin) (relaxed : Bool) (only : Option Position) :
    State.Tries c t s (s.createJob t o relaxed only) :=
  .ite (((updSlot_tries _).trans assertLine_tries).trans (finishJob_tries ..))
    ((((updSlot_tries _).trans assertLine_tries).trans enterQueue_tries).trans (raise_tries _))

theorem startAttempt_tries (p : Position) (ph : Phase) : State.Tries c t s (s.startAttempt c t p ph) := by
  unfold State.startAttempt
  exact (updJob_tries _).trans (updChannel_tries _)

theorem startProbe_tries (p : Position) : State.Tries c t s (s.startProbe c t p) :=
  (startAttempt_tries ..).trans (setJobState_tries _)

theorem startFetch_tries (x : Candidate) : State.Tries c t s (s.startFetch c t x) := by
  have h : State.Tries c t s _ := (((startAttempt_tries x.position .fetch).trans (updChannel_tries fun y =>
    { y with params := some (streamParams x.header), check := some crc32Init })).trans
    (setJobState_tries .streaming)).trans (raise_tries (.job t))
  exact .ite (h.trans releaseLine_tries) h

theorem refusedAtOnce_tries : State.Tries c t s (s.refusedAtOnce c t) := (updChannel_tries _).trans (recordOutcome_tries _)

theorem endPass_tries : State.Tries c t s (s.endPass c t) := by
  unfold State.endPass
  split
  · exact .refl
  · exact .ite (leaveChannel_tries.trans (finishJob_tries ..))
      (.ite ((((leaveChannel_tries.trans (updJob_tries _)).trans (updJob_tries _)).trans enterQueue_tries).trans (raise_tries _))
        (((leaveChannel_tries.trans (updJob_tries _)).trans (updSlot_tries _)).trans (raise_tries _)))

theorem probeFirst_tries (ps : List Position) : State.Tries c t s (State.probeFirst c t ps s) := by
  induction ps generalizing s with
  | nil => exact endPass_tries
  | cons p ps ih =>
    exact .ite (.ite (((startProbe_tries p).trans refusedAtOnce_tries).trans ih)
      ((startProbe_tries p).trans (setClaim_tries ..))) ih

theorem fetchNewest_tries (xs : List Candidate) : State.Tries c t s (State.fetchNewest c t xs s) := by
  induction xs generalizing s with
  | nil => exact endPass_tries
  | cons x xs ih =>
    have refused : State.Tries c t s ((s.startFetch c t x).refusedAtOnce c t) :=
      (startFetch_tries x).trans refusedAtOnce_tries
    exact .ite (.ite ((((State.Tries.ite (refused.trans assertLine_tries) refused).trans (updChannel_tries _)).trans
      dropHead_tries).trans ih) ((startFetch_tries x).trans (setClaim_tries ..))) (dropHead_tries.trans ih)

theorem sweep_tries (ps : List Position) : State.Tries c t s (State.sweep c t ps s) := by
  induction ps generalizing s with
  | nil =>
    unfold State.sweep
    split
    · exact .refl
    · exact fetchNewest_tries _
  | cons p ps ih =>
    exact .ite (.ite (((startProbe_tries p).trans refusedAtOnce_tries).trans ih)
      ((startProbe_tries p).trans (setClaim_tries ..))) ih

theorem moveOn_tries : State.Tries c t s (s.moveOn c t) := by
  unfold State.moveOn
  split
  · exact .refl
  · split
    · exact probeFirst_tries _
    · exact .ite (fetchNewest_tries _) (sweep_tries _)

theorem startPass_tries : State.Tries c t s (s.startPass c t) := by
  have h : State.Tries c t s _ := ((updChannel_tries fun x =>
    { x with running := some t, issue := 0, params := none, check := none }).trans
      (updJob_tries fun j => { j with candidates := [] })).trans (setJobState_tries .probing)
  unfold State.startPass
  dsimp only
  split
  · exact h
  · split
    · exact h.trans (probeFirst_tries _)
    · exact h.trans (sweep_tries _)

theorem cancelHost_tries : State.Tries c t s (s.cancelHost t) := .ite (.trans (.single .cancel) (raise_tries _)) .refl

theorem clearAttempt_tries : State.Tries c t s (s.clearAttempt c t) := by
  unfold State.clearAttempt
  exact ((updChannel_tries _).trans cancelHost_tries).trans (updLine_tries _)

theorem endFetch_tries (o : AttemptOutcome) : State.Tries c t s (s.endFetch c t o) := by
  have h1 : State.Tries c t s _ := (clearAttempt_tries.trans (updChannel_tries fun x => { x with check := none })).trans
    (recordOutcome_tries o)
  have h2 := State.Tries.ite (p := (s.record t).kind = .lane) (h1.trans assertLine_tries) h1
  have h3 := State.Tries.ite (p := (s.record t).mode = .newest) (h2.trans dropHead_tries) h2
  exact .ite (h3.trans (setJobState_tries _)) (h3.trans moveOn_tries)

theorem endProbe_tries (o : AttemptOutcome) : State.Tries c t s (s.endProbe c t o) :=
  ((updChannel_tries _).trans (recordOutcome_tries _)).trans moveOn_tries

theorem endAttempt_tries (o : AttemptOutcome) : State.Tries c t s (s.endAttempt c t o) := by
  unfold State.endAttempt
  split
  · exact .refl
  · split
    · exact endProbe_tries o
    · exact endFetch_tries o
    · exact endFetch_tries o
    all_goals exact .refl

theorem abortJob_tries : State.Tries c t s (s.abortJob c t) := leaveChannel_tries.trans (finishJob_tries ..)

theorem drained_tries : State.Tries c t s (s.drained c t) := by
  refine .ite .refl ?_
  split
  · exact .refl
  · exact .ite abortJob_tries moveOn_tries

/-! ### Deliveries, claims and completions -/

theorem deliver_tries : State.Tries c t s (s.deliver c t) := by
  unfold State.deliver
  split
  · rename_i j x _ _
    have h : State.Tries c t s _ := (((leaveChannel_tries.trans (finishJob_tries .delivered .delivered)).trans
      (updSlot_tries fun y => { y with condition := .loaded, descriptor := descriptorOf j x })).trans
      (.single (.raiseFloor x))).trans (updLine_tries fun y => { y with done := none })
    exact .ite (h.trans releaseLine_tries) h
  all_goals exact .refl

theorem placeClaim_tries : State.Tries c t s (s.placeClaim c t) := by
  unfold State.placeClaim
  split
  · exact .refl
  · split
    · exact .refl
    · exact .ite (.ite ((updChannel_tries _).trans (endAttempt_tries _)) (setClaim_tries ..)) .refl

theorem handOff_tries : State.Tries c t s (s.handOff c t) := by
  unfold State.handOff
  dsimp only
  split
  · refine .ite ?_ .refl
    split
    · exact .refl
    · exact (updChannel_tries _).trans (updLine_tries _)
  all_goals exact .refl

theorem acceptFirst_tries (data : List Byte) : State.Tries c t s (s.acceptFirst c t data) := by
  have h2 : State.Tries c t s _ := ((updChannel_tries fun y =>
      { y with params := some (streamParams data), check := some crc32Init }).trans
    (updJob_tries fun j => { j with phase := some .fetch, delivered := 0 })).trans (setJobState_tries .streaming)
  have h3 := State.Tries.ite (p := (s.record t).kind = .lane) (h2.trans releaseLine_tries) h2
  exact .ite ((h3.trans (putSlot_tries ..)).trans (endFetch_tries _))
    (((h3.trans (putSlot_tries ..)).trans handOff_tries).trans placeClaim_tries)

theorem acceptNewest_tries (j : Job) (data : List Byte) : State.Tries c t s (s.acceptNewest c t j data) := by
  unfold State.acceptNewest
  dsimp only
  split
  · exact ((putSlot_tries ..).trans (updJob_tries _)).trans moveOn_tries
  · exact (putSlot_tries ..).trans moveOn_tries

theorem probeData_tries (j : Job) (data : List Byte) : State.Tries c t s (s.probeData c t j data) := by
  unfold State.probeData
  split
  · exact (putSlot_tries ..).trans (endProbe_tries _)
  · split
    · exact acceptFirst_tries data
    · exact acceptNewest_tries j data

theorem fetchData_tries (k : Nat) (data : List Byte) : State.Tries c t s (s.fetchData c t k data) := by
  unfold State.fetchData
  split
  · exact .refl
  · exact .ite ((putSlot_tries ..).trans (endFetch_tries _)) (.ite ((putSlot_tries ..).trans (endFetch_tries _))
      ((putSlot_tries ..).trans handOff_tries))

/-- The data of a read works on the target whose job the channel runs. -/
theorem channelData_tries (k : Nat) (data : List Byte) :
    s.channelData c k data = s ∨ ∃ t, (s.channels.get c).running = some t ∧ State.Tries c t s (s.channelData c k data) := by
  unfold State.channelData
  split
  · exact .inl rfl
  · rename_i t hc
    refine .inr ⟨t, hc, ?_⟩
    split
    · exact .refl
    · split
      · exact probeData_tries _ _
      · exact fetchData_tries _ _
      · exact (putSlot_tries ..).trans drained_tries
      all_goals exact .refl

theorem endStream_tries : State.Tries c t s (s.endStream c t) := by
  unfold State.endStream
  split
  · exact .ite (.ite deliver_tries (.ite ((setJobState_tries _).trans deliver_tries)
      ((setJobState_tries _).trans (updLine_tries _)))) (endFetch_tries _)
  all_goals exact .refl

theorem blockDelivered_tries : State.Tries c t s (s.blockDelivered c t) := by
  unfold State.blockDelivered
  dsimp only
  split
  · exact .ite (((updChannel_tries _).trans (updJob_tries _)).trans endStream_tries)
      ((((updChannel_tries _).trans (updJob_tries _)).trans handOff_tries).trans placeClaim_tries)
  all_goals exact .refl

theorem abortRunning_tries : State.Tries c t s (s.abortRunning c t) :=
  .ite ((((assertLine_tries.trans clearAttempt_tries).trans (updJob_tries _)).trans (setJobState_tries _)).trans (raise_tries _))
    ((assertLine_tries.trans clearAttempt_tries).trans abortJob_tries)

theorem tdoneTaken_tries (s : State) (t : Target) : ∃ c, State.Tries c t s (s.tdoneTaken t) := by
  unfold State.tdoneTaken
  split
  · exact ⟨_, .ite deliver_tries .refl⟩
  all_goals exact ⟨.a, .refl⟩

theorem takeFault_tries (s : State) (t : Target) : ∃ c, State.Tries c t s (s.takeFault t) := by
  unfold State.takeFault
  split
  · split
    · exact ⟨_, .ite (endFetch_tries _) .refl⟩
    all_goals exact ⟨.a, .refl⟩
  · exact ⟨.a, .ite (.ite ((setCondition_tries _).trans (createJob_tries ..)) (setCondition_tries _)) .refl⟩

theorem backoffEnds_tries : State.Tries c t s (s.backoffEnds t) := by
  unfold State.backoffEnds
  split
  · exact .refl
  · exact .ite (((updSlot_tries _).trans (setJobState_tries _)).trans enterQueue_tries) .refl

theorem lineAct_tries (a : LineAction) : State.Tries c t s (s.lineAct t a) := by
  cases a
  · exact assertLine_tries.trans (setCondition_tries _)
  · exact releaseLine_tries
  · exact .refl

/-! ### What is left alone -/

theorem backoffEnds_frame (s : State) (t : Target) : SearchFrame s (s.backoffEnds t) := by
  unfold State.backoffEnds
  split
  · exact .refl s
  · exact .ite (((updSlot_frame ..).trans (setJobState_frame ..)).trans (enterQueue_frame ..)) (.refl s)

theorem tdoneTaken_frame (s : State) (t : Target) : SearchFrame s (s.tdoneTaken t) := by
  unfold State.tdoneTaken
  split
  · exact .ite (deliver_frame ..) (.refl s)
  all_goals exact .refl s

theorem lineAct_frame (s : State) (t : Target) (a : LineAction) : SearchFrame s (s.lineAct t a) := by
  cases a
  · exact (assertLine_frame ..).trans (setCondition_frame ..)
  · exact releaseLine_frame ..
  · exact .refl s

theorem abortWaiting_frame (s : State) (t : Target) : SearchFrame s (s.abortWaiting t) :=
  ((leaveQueues_frame ..).trans (updSlot_frame ..)).trans (finishJob_frame ..)

theorem takeHead_eq (s : State) (c : Chan) :
    s.takeHead c = s ∨ ∃ t rest, s.queues.get c = t :: rest ∧ (s.channels.get c).running = none
      ∧ s.takeHead c = (s.updQueue c fun _ => rest).startPass c t := by
  unfold State.takeHead
  split
  · rename_i t rest hc hq
    exact .inr ⟨t, rest, hq, hc, rfl⟩
  all_goals exact .inl rfl

theorem takeHead_frame (s : State) (c : Chan) : SearchFrame s (s.takeHead c) := by
  rcases takeHead_eq s c with e | ⟨t, rest, -, -, e⟩ <;> rw [e]
  · exact .refl s
  · exact (updQueue_frame ..).trans (startPass_frame ..)

/-- R120: the wanted set only shrinks. -/
theorem State.Tries.wanted {u : State} (h : State.Tries c t s u) : u.wanted.Sublist s.wanted := by
  induction h with
  | refl => exact .refl _
  | tail _ h ih =>
    cases h with
    | cancel => exact List.filter_sublist.trans ih
    | raiseFloor x =>
      unfold State.raiseFloor
      dsimp only
      split <;> exact ih
    | _ => exact ih

/-- R26: a version floor is the one value of the live setup that work on a job changes, and a save's snapshot stays. -/
theorem State.Tries.setupOk {u : State} (h : State.Tries c t s u) (hs : s.SetupOk) : u.SetupOk := by
  induction h with
  | refl => exact hs
  | @tail v _ _ h ih =>
    cases h with
    | raiseFloor x =>
      unfold State.raiseFloor
      dsimp only
      split
      · obtain ⟨⟨hsrc, htgt, hset⟩, hsave⟩ := ih
        refine ⟨⟨hsrc, fun u => ?_, hset⟩, fun w hw => ?_⟩
        · rw [State.updStore_store, SetupStore.markChanged, PerTarget.get_set]
          split
          · exact htgt t
          · exact htgt u
        · obtain ⟨z, hz, rfl⟩ := Option.map_eq_some_iff.1 hw
          exact hsave z hz
      · exact ih
    | _ => exact ih

/-- Work on one target leaves the others' entries of the Job Table, lines and places, and the other channel. -/
theorem State.Tries.others {u : State} (h : State.Tries c t s u) :
    (∀ v, v ≠ t → u.jobs.get v = s.jobs.get v ∧ u.lines.get v = s.lines.get v)
      ∧ ∀ d, d ≠ c → u.channels.get d = s.channels.get d := by
  induction h with
  | refl => exact ⟨fun _ _ => ⟨rfl, rfl⟩, fun _ _ => rfl⟩
  | @tail w _ _ h ih =>
    obtain ⟨ih1, ih2⟩ := ih
    cases h with
    | slot f => exact ⟨fun v hv => ⟨by simpa [PerTarget.get_set_of_ne _ _ hv] using (ih1 v hv).1, (ih1 v hv).2⟩, ih2⟩
    | line f => exact ⟨fun v hv => ⟨(ih1 v hv).1, by simpa [PerTarget.get_set_of_ne _ _ hv] using (ih1 v hv).2⟩, ih2⟩
    | channel f => exact ⟨ih1, fun d hd => by simpa [PerChan.get_set_of_ne _ _ hd] using ih2 d hd⟩
    | raiseFloor x =>
      unfold State.raiseFloor
      dsimp only
      split <;> exact ⟨ih1, ih2⟩
    | _ => exact ⟨ih1, ih2⟩

end Sys2Proof.Machine
end

section
/-! SUPPORT. The invariants of the live setup's ranges (O55) and of the ports' credits (O56): each small step keeps them. -/

namespace Sys2Proof.Machine

variable {K : Prop} {s u : State}

/-! ### Ranges of the live setup (R1, R29, R30, R110, R111) -/

theorem setupOk_inner : Inner State.SetupOk :=
  ⟨fun _ _ h => h, fun _ _ h => h, fun _ _ h => h, fun _ _ h => h, fun _ _ h => h⟩

/-- An edit that leaves every value in range leaves the live setup and a save's snapshot in range (R151, R155). -/
theorem edit_setupOk (hs : s.SetupOk) (f : Setup → Setup) (hf : (f s.store.setup).InRange) :
    (s.updStore fun x => x.edit (f x.setup)).SetupOk := by
  show (State.updStore s _).store.setup.InRange ∧ _
  rw [State.updStore_store, SetupStore.edit]
  split
  · exact hs
  · refine ⟨hf, fun v hv => ?_⟩
    obtain ⟨w, hw, rfl⟩ := Option.map_eq_some_iff.1 hv
    exact hs.2 w hw

theorem does_setupOk (hs : s.SetupOk) (h : State.Does K s u) : u.SetupOk := by
  cases h with
  | takeHead c =>
    rcases takeHead_eq s c with e | ⟨t, rest, -, -, e⟩ <;> rw [e]
    · exact hs
    · exact startPass_tries.setupOk hs
  | backoffEnds t => exact (backoffEnds_tries (c := .a)).setupOk hs
  | endAttempt c t o => exact (endAttempt_tries o).setupOk hs
  | drained c t => exact drained_tries.setupOk hs
  | placeClaim c t => exact placeClaim_tries.setupOk hs
  | channelData c k data =>
    rcases channelData_tries (s := s) (c := c) k data with e | ⟨t, -, ht⟩
    · rw [e]; exact hs
    · exact ht.setupOk hs
  | blockDelivered c t => exact blockDelivered_tries.setupOk hs
  | tdoneTaken t => obtain ⟨c, ht⟩ := tdoneTaken_tries s t; exact ht.setupOk hs
  | takeFault t => obtain ⟨c, ht⟩ := takeFault_tries s t; exact ht.setupOk hs
  | createJob t o relaxed only => exact (createJob_tries (c := .a) o relaxed only).setupOk hs
  | abortRunning c t => exact abortRunning_tries.setupOk hs
  | lineAct t a => exact (lineAct_tries (c := .a) a).setupOk hs
  | portState p x => unfold State.setPortState; split <;> exact hs
  | cardGone => unfold State.setPortState; split <;> exact hs
  | setSource p e he =>
    obtain ⟨hsrc, htgt, hset⟩ := hs.1
    refine edit_setupOk hs (fun x => { x with sources := x.sources.set p e }) ⟨fun q => ?_, htgt, hset⟩
    rw [PerPosition.get_set]
    split
    · exact he
    · exact hsrc q
  | setTarget t x hx =>
    obtain ⟨hsrc, htgt, hset⟩ := hs.1
    refine edit_setupOk hs (fun y => { y with targets := y.targets.set t x }) ⟨hsrc, fun v => ?_, hset⟩
    rw [PerTarget.get_set]
    split
    · exact hx
    · exact htgt v
  | setSettings x hx =>
    obtain ⟨hsrc, htgt, -⟩ := hs.1
    exact edit_setupOk hs (fun y => { y with settings := x }) ⟨hsrc, htgt, hx⟩
  | store f hset _ hv =>
    refine ⟨by rw [State.updStore_store, hset]; exact hs.1, fun v h => ?_⟩
    rcases hv v h with e | ⟨w, hw, e⟩ <;> rw [e]
    · exact hs.1
    · exact hs.2 w hw
  | startUp f _ hv hset => exact ⟨hset hs.1, fun v h => hs.2 v (hv ▸ h)⟩
  | _ => exact hs

theorem powerOn_setupOk (s : State) (rate : Fin 4) : (s.powerOn rate).SetupOk := by
  refine ⟨default_inRange, fun v hv => ?_⟩
  cases hv

/-- The start of start-up touches the ports, the start-up state and the reports raised alone. -/
theorem beginStartUp_store (s : State) :
    s.beginStartUp.store = { s.store with startup := .probingPorts } ∧ s.beginStartUp.jobs = s.jobs := by
  have h : ∀ s1 : State, ((s1.setPortState .flash0 .probing).setPortState .flash1 .probing).store = s1.store
      ∧ ((s1.setPortState .flash0 .probing).setPortState .flash1 .probing).jobs = s1.jobs := fun s1 =>
    ⟨(setPortState_store ..).1.trans (setPortState_store ..).1, (setPortState_store ..).2.trans (setPortState_store ..).2⟩
  unfold State.beginStartUp
  dsimp only
  split
  · exact ⟨(setPortState_store ..).1.trans (h _).1, (setPortState_store ..).2.trans (h _).2⟩
  · exact h _

theorem beginStartUp_setupOk (hs : s.SetupOk) : s.beginStartUp.SetupOk := by
  unfold State.SetupOk
  rw [(beginStartUp_store s).1]
  exact hs

/-- Settles O55: each small step keeps every value of the live setup and of a snapshot in its range. -/
theorem setupRangesKept : Obligations.SetupRangesKept := by
  intro s t hs h
  refine setupOk_inner.step_keeps (K := False) (fun _ _ hs h => does_setupOk hs h) (fun s => powerOn_setupOk s 0)
    (fun s rate => beginStartUp_setupOk (powerOn_setupOk s rate)) (fun _ _ k => k.elim) ?_ hs h
  intro q a b hq
  rcases resetDeassert_cases hq with rfl | ⟨-, rfl⟩
  · exact hs
  · exact setupOk_inner.settled.flush _ _ (beginStartUp_setupOk (by exact hs))

/-! ### Credits of the ports (R99, R103) -/

/-- The credits do not change where the ports are left alone and the wanted set only shrinks. -/
theorem portsOk_of_shrinks (hs : s.PortsOk) (hp : u.ports = s.ports) (hw : u.wanted.Sublist s.wanted) : u.PortsOk := by
  obtain ⟨h1, h2, h3⟩ := hs
  refine ⟨fun p => ?_, by rw [hp]; exact h2, by rw [hp]; exact h3⟩
  have := h1 p
  cases p
  case host => exact hw.length_le.trans this
  all_goals simpa only [State.outstanding, hp] using this

theorem portsOk_inner : Inner State.PortsOk := by
  constructor <;> exact fun s x h => portsOk_of_shrinks h rfl (.refl _)

/-- A change of one device port keeps the credits, if its reads are at most 3 and none where it is not READY. -/
theorem portsOk_of_port (hs : s.PortsOk) (p : Port) (f : SourcePort → SourcePort)
    (hl : p ≠ .host → (f (s.ports.get p)).reads.length ≤ 3)
    (hr : (f (s.ports.get p)).state ≠ .ready → p ≠ .host ∧ (f (s.ports.get p)).reads = []) :
    (s.updPort p f).PortsOk := by
  obtain ⟨h1, h2, h3⟩ := hs
  refine ⟨fun q => ?_, fun q hq => ?_, ?_⟩
  · have := h1 q
    cases q
    case host => exact this
    all_goals
      simp only [State.outstanding, State.updPort_ports, PerPort.get_set] at this ⊢
      split
      · rename_i e
        exact hl (by simp [← e])
      · exact this
  · simp only [State.updPort_ports, PerPort.get_set] at hq ⊢
    split at hq
    · rename_i e
      rw [if_pos e]
      exact (hr hq).2
    · rename_i e
      rw [if_neg e]
      exact h2 q hq
  · simp only [State.updPort_ports, PerPort.get_set]
    split
    · by_contra hn
      exact (hr hn).1 (by simp [*])
    · exact h3

/-- R111: a credit limit in range is at most 3. -/
theorem limit_le (hs : s.SetupOk) (p : Port) : s.settings.limits.get p ≤ 3 := by
  have h : s.settings.inRange = true := hs.1.2.2
  simp only [Settings.inRange, List.all_cons, List.all_nil, Bool.and_true, Bool.and_eq_true, decide_eq_true_eq] at h
  obtain ⟨⟨⟨⟨-, h0⟩, ⟨-, h1⟩, ⟨-, h2⟩, ⟨-, h3⟩⟩, -⟩, -⟩ := h
  cases p <;> assumption

/-- R99, R101: a port that may grant is READY with a credit left. -/
theorem mayGrant_iff (s : State) (p : Port) : s.mayGrant p = true ↔
    (s.ports.get p).state = .ready ∧ (p = .flash0 → s.writerClaims = false)
      ∧ s.outstanding p < s.settings.limits.get p := by
  simp [State.mayGrant, and_assoc, imp_iff_not_or]

theorem setPortState_portsOk (hs : s.PortsOk) (p : Port) (x : PortState)
    (h : (s.ports.get p).state ≠ .ready ∨ (p ≠ .host ∧ (s.ports.get p).reads = []) ∨ x = .ready) :
    (s.setPortState p x).PortsOk := by
  unfold State.setPortState
  split
  · exact hs
  · refine portsOk_inner.raised _ _ (portsOk_of_port hs p (fun q => { q with state := x }) (fun hp => ?_) fun hx => ?_)
    · have := hs.1 p
      cases p
      case host => exact absurd rfl hp
      all_goals exact this
    · rcases h with h | h | h
      · exact ⟨by rintro rfl; exact h hs.2.2, hs.2.1 p h⟩
      · exact h
      · exact absurd h hx

theorem does_portsOk (hset : s.SetupOk) (hs : s.PortsOk) (h : State.Does K s u) : u.PortsOk := by
  have keep : ∀ {c : Chan} {t : Target} {v : State}, SearchFrame s v → State.Tries c t s v → v.PortsOk := fun hf ht =>
    portsOk_of_shrinks hs hf.ports ht.wanted
  have device : ∀ {p : Port}, p ≠ .host → (s.ports.get p).reads.length = s.outstanding p := by
    intro p hp
    cases p
    case host => exact absurd rfl hp
    all_goals rfl
  cases h with
  | port p f hf =>
    refine portsOk_of_port hs p f (fun hp => ?_) fun hx => ?_
    · rw [(hf _).2, device hp]; exact hs.1 p
    · rw [(hf _).1] at hx
      rw [(hf _).2]
      exact ⟨by rintro rfl; exact hx hs.2.2, hs.2.1 p hx⟩
  | cancel w hw => exact portsOk_of_shrinks hs rfl hw
  | takeHead c =>
    rcases takeHead_eq s c with e | ⟨t, rest, -, -, e⟩ <;> rw [e]
    · exact hs
    · exact portsOk_of_shrinks (by exact hs) (startPass_frame ..).ports startPass_tries.wanted
  | backoffEnds t =>
    exact keep (backoffEnds_frame ..) (backoffEnds_tries (c := .a))
  | endAttempt c t o => exact keep (endAttempt_frame ..) (endAttempt_tries o)
  | drained c t => exact keep (drained_frame ..) drained_tries
  | placeClaim c t => exact keep (placeClaim_frame ..) placeClaim_tries
  | channelData c k data =>
    rcases channelData_tries (s := s) (c := c) k data with e | ⟨t, -, ht⟩
    · rw [e]; exact hs
    · exact keep (channelData_frame ..) ht
  | blockDelivered c t => exact keep (blockDelivered_frame ..) blockDelivered_tries
  | tdoneTaken t =>
    obtain ⟨c, ht⟩ := tdoneTaken_tries s t
    exact keep (tdoneTaken_frame ..) ht
  | takeFault t => obtain ⟨c, ht⟩ := takeFault_tries s t; exact keep (takeFault_frame ..) ht
  | createJob t o relaxed only => exact keep (createJob_frame ..) (createJob_tries (c := .a) o relaxed only)
  | abortRunning c t => exact keep (abortRunning_frame ..) abortRunning_tries
  | lineAct t a =>
    exact keep (lineAct_frame ..) (lineAct_tries (c := .a) a)
  | portState p x h => exact setPortState_portsOk hs p x h
  | cardGone =>
    have e : (s.setPortState .card .empty).updPort .card (fun x => { x with capacity := 0, reads := [] })
        = s.updPort .card (fun x => { x with state := .empty, capacity := 0, reads := [] })
      ∨ (s.setPortState .card .empty).updPort .card (fun x => { x with capacity := 0, reads := [] })
        = (s.updPort .card (fun x => { x with state := .empty, capacity := 0, reads := [] })).raise .part := by
      unfold State.setPortState
      split
      · rename_i hc
        exact .inl (by simp [State.updPort, hc])
      · exact .inr (by simp [State.updPort, State.raise])
    have h : (s.updPort .card (fun x => { x with state := .empty, capacity := 0, reads := [] })).PortsOk :=
      portsOk_of_port hs .card _ (by simp) (by simp)
    rcases e with e | e <;> rw [e] <;> exact h
  | grantHost w h =>
    obtain ⟨-, -, hl⟩ := (mayGrant_iff ..).1 h
    obtain ⟨h1, h2, h3⟩ := hs
    refine ⟨fun p => ?_, h2, h3⟩
    have := h1 p
    cases p
    case host =>
      have : (s.wanted ++ [w]).length = s.outstanding .host + 1 := by simp [State.outstanding]
      exact this.trans_le (Nat.lt_of_lt_of_le hl (limit_le hset .host))
    all_goals exact this
  | grantRead p r h =>
    obtain ⟨hr, -, hl⟩ := (mayGrant_iff ..).1 h
    refine portsOk_of_port hs p _ (fun hp => ?_) fun hx => absurd hr hx
    have : ((s.ports.get p).reads ++ [r]).length = s.outstanding p + 1 := by simp [device hp]
    exact this.trans_le (Nat.lt_of_lt_of_le hl (limit_le hset p))
  | readEnds p n =>
    refine portsOk_of_port hs p _ (fun hp => ?_) fun hx => ?_
    · exact (List.length_eraseIdx_le _ _).trans ((device hp).le.trans (hs.1 p))
    · exact ⟨by rintro rfl; exact hx hs.2.2, by rw [hs.2.1 p hx]; rfl⟩
  | _ => exact portsOk_of_shrinks hs rfl (.refl _)

theorem powerOn_portsOk (s : State) (rate : Fin 4) : (s.powerOn rate).PortsOk :=
  ⟨fun p => by cases p <;> exact Nat.zero_le 3, fun p _ => by cases p <;> rfl, rfl⟩

theorem beginStartUp_portsOk (s : State) (rate : Fin 4) : (s.powerOn rate).beginStartUp.PortsOk := by
  have h0 : ((s.powerOn rate).updStore fun x => { x with startup := .probingPorts }).PortsOk := powerOn_portsOk s rate
  have h1 := setPortState_portsOk h0 .flash0 .probing (.inl (by simp [State.powerOn, State.reset, resetPorts, PerPort.get]))
  have h2 := setPortState_portsOk h1 .flash1 .probing (.inl (by
    simp [State.setPortState, State.updPort, State.powerOn, State.reset, resetPorts, PerPort.get, PerPort.set, State.raise]))
  unfold State.beginStartUp
  dsimp only
  split
  · refine setPortState_portsOk h2 .card .waking (.inl ?_)
    simp [State.setPortState, State.updPort, State.powerOn, State.reset, resetPorts, PerPort.get, PerPort.set, State.raise]
  · exact h2

/-- Settles O56, with the ranges of the credit limits beside the credits. -/
theorem portCreditsKept : Obligations.PortCreditsKept := by
  intro s t hheld hset hs h
  have hP := setupOk_inner.and portsOk_inner
  have hstart : ∀ (s : State) (rate : Fin 4),
      (s.powerOn rate).beginStartUp.SetupOk ∧ (s.powerOn rate).beginStartUp.PortsOk := fun s rate =>
    ⟨beginStartUp_setupOk (powerOn_setupOk s rate), beginStartUp_portsOk s rate⟩
  exact (hP.step_keeps (K := False) (fun _ _ hs h => ⟨does_setupOk hs.1 h, does_portsOk hs.1 hs.2 h⟩)
    (fun s => ⟨powerOn_setupOk s 0, powerOn_portsOk s 0⟩) hstart (fun _ _ k => k.elim)
    (fun q a b h => hP.resetDeassert_keeps hstart hheld ⟨hset, hs⟩ q a b h) ⟨hset, hs⟩ h).2

end Sys2Proof.Machine
end

section
/-! SUPPORT. The Host Link: what an action can do to it, and its invariants (O57); with it what no small step touches. -/

namespace Sys2Proof.Machine

variable {K : Prop} {s u : State}

/-! ### What no small step touches -/

/-- `u` differs from `s` at most in the jobs, the ports, the Setup Store and what hangs on them. -/
structure OuterFrame (s u : State) : Prop where
  pins : u.pins = s.pins
  link : u.link = s.link
  reports : u.reports = s.reports
  pending : u.pending = s.pending

theorem OuterFrame.refl (s : State) : OuterFrame s s := ⟨rfl, rfl, rfl, rfl⟩

theorem OuterFrame.trans {v : State} (h : OuterFrame s u) (k : OuterFrame u v) : OuterFrame s v :=
  ⟨k.pins.trans h.pins, k.link.trans h.link, k.reports.trans h.reports, k.pending.trans h.pending⟩

theorem SearchFrame.outer (h : SearchFrame s u) : OuterFrame s u := ⟨h.pins, h.link, h.reports, h.pending⟩

theorem setPortState_outer (s : State) (p : Port) (x : PortState) : OuterFrame s (s.setPortState p x) := by
  unfold State.setPortState
  split <;> exact ⟨rfl, rfl, rfl, rfl⟩

theorem does_outer (h : State.Does K s u) : OuterFrame s u := by
  cases h with
  | takeHead c => exact (takeHead_frame ..).outer
  | backoffEnds t => exact (backoffEnds_frame ..).outer
  | endAttempt c t o => exact (endAttempt_frame ..).outer
  | drained c t => exact (drained_frame ..).outer
  | placeClaim c t => exact (placeClaim_frame ..).outer
  | channelData c k data => exact (channelData_frame ..).outer
  | blockDelivered c t => exact (blockDelivered_frame ..).outer
  | tdoneTaken t => exact (tdoneTaken_frame ..).outer
  | takeFault t => exact (takeFault_frame ..).outer
  | createJob t o relaxed only => exact (createJob_frame ..).outer
  | abortRunning c t => exact (abortRunning_frame ..).outer
  | lineAct t a => exact (lineAct_frame ..).outer
  | portState p x => exact setPortState_outer ..
  | cardGone => exact (setPortState_outer ..).trans ⟨rfl, rfl, rfl, rfl⟩
  | _ => exact ⟨rfl, rfl, rfl, rfl⟩

theorem quietWorks_outer (h : State.QuietWorks K s u) : OuterFrame s u := by
  induction h with
  | refl => exact .refl s
  | tail _ h ih => exact ih.trans (does_outer h)

theorem beginStartUp_outer (s : State) : OuterFrame s s.beginStartUp := by
  have h : OuterFrame s _ := ((⟨rfl, rfl, rfl, rfl⟩ : OuterFrame s (s.updStore fun x => { x with startup := .probingPorts })).trans
    (setPortState_outer _ .flash0 .probing)).trans (setPortState_outer _ .flash1 .probing)
  unfold State.beginStartUp
  dsimp only
  split
  · exact h.trans (setPortState_outer ..)
  · exact h

/-! ### What an action does to the link -/

/-- One change an event can make to the Host Link. -/
inductive Link.Changes (x : Link) : Link → Prop where
  | line (y : Link) (hq : y.queue = x.queue) (hh : y.handler = x.handler) (hc : y.cache = x.cache)
      (hr : y.replies = x.replies ∨ ∃ a, x.replies = a :: y.replies)
      (h1 : y.lengthDiscards = x.lengthDiscards ∨ y.lengthDiscards = countUp x.lengthDiscards)
      (h2 : y.gapDiscards = x.gapDiscards ∨ y.gapDiscards = countUp x.gapDiscards)
      (h3 : y.checkDiscards = x.checkDiscards ∨ y.checkDiscards = countUp x.checkDiscards) : Changes x y
  | accept (f : Frame) : Changes x (x.accept f)
  | forget : Changes x { x.hunt with cache := [] }
  | completes (r : Request) (w : Work) (st : Status) (data : List Byte) (hh : x.handler = .serving r w) :
      Changes x (x.respond r st data false)
  | answers (r : Request) (rest : List Request) (st : Status) (data : List Byte) (restart : Bool) (hi : x.handler = .idle)
      (hl : x.replies.length < 4) (hq : x.queue = r :: rest) :
      Changes x (({ x with queue := rest } : Link).respond r st data restart)
  | serves (r : Request) (rest : List Request) (w : Work) (hi : x.handler = .idle) (hl : x.replies.length < 4)
      (hq : x.queue = r :: rest) : Changes x { x with queue := rest, handler := .serving r w }
  | reset (rate : Fin 4) : Changes x (.reset rate)

abbrev Link.Steps : Link → Link → Prop := Relation.ReflTransGen Link.Changes

/-- A change of the receiver and the gap timer alone. -/
theorem Link.Changes.receiver (x : Link) (r : Receiver) (gap : Timer) : x.Changes { x with receiver := r, gap := gap } :=
  .line _ rfl rfl rfl (.inl rfl) (.inl rfl) (.inl rfl) (.inl rfl)

theorem appendByte_steps (x : Link) (b : Byte) : x.Steps (x.appendByte b) := by
  unfold Link.appendByte
  split
  · split
    · exact .single (.receiver ..)
    · exact .refl
  · exact .single (.receiver ..)

theorem works_link (h : State.Works K s u) : s.link.Steps u.link := by
  induction h with
  | refl => exact .refl
  | tail _ h ih =>
    rcases h with h | ⟨r, w, st, data, hh, rfl⟩
    · rw [(does_outer h).link]; exact ih
    · exact ih.tail (.completes r w st data hh)

theorem receiveByte_link (b : Byte) (s : State) : s.link.Steps (s.receiveByte b).link := by
  have good : s.link.Steps s.goodFrame.link := .single (.receiver ..)
  unfold State.receiveByte
  split
  · exact appendByte_steps ..
  · exact .single (.line _ rfl rfl rfl (.inl rfl) (.inr rfl) (.inl rfl) (.inl rfl))
  · exact .single (.line _ rfl rfl rfl (.inl rfl) (.inl rfl) (.inl rfl) (.inr rfl))
  · exact good.trans (works_link (dataFrame_works (K := False) ..))
  · unfold State.takeAck
    split <;> exact good
  · exact good.tail (.accept _)

theorem answersBy_link {i : Instr} {r : Request} {rest : List Request} (hi : s.link.handler = .idle)
    (hl : s.link.replies.length < 4) (hq : s.link.queue = r :: rest)
    (h : State.AnswersBy i K { s with link := { s.link with queue := rest } } r u) : s.link.Steps u.link := by
  obtain ⟨g, s1, -, h1, h2⟩ := h
  have hl1 : s1.link = { s.link with queue := rest } := (quietWorks_outer h1).link
  rcases h2 with ⟨st, data, restart, rfl⟩ | ⟨w, h2⟩
  · rw [State.updLink_link, hl1]
    exact .single (.answers r rest st data restart hi hl hq)
  · have h3 := works_link h2
    rw [State.serve_link, hl1] at h3
    exact .head (.serves r rest w hi hl hq) h3

theorem actsBy_link {i : Instr} (h : State.ActsBy i K s u) : s.link.Steps u.link := by
  cases h with
  | works u h => exact works_link h
  | receives b => exact receiveByte_link b s
  | discards => exact .single (.line _ rfl rfl rfl (.inl rfl) (.inl rfl) (.inl rfl) (.inr rfl))
  | gapExpires => exact .single (.line _ rfl rfl rfl (.inl rfl) (.inl rfl) (.inr rfl) (.inl rfl))
  | breaks => exact .single .forget
  | startsSending =>
    have sends : ∀ tx, s.link.Steps { s.link with tx := tx } := fun _ =>
      .single (.line _ rfl rfl rfl (.inl rfl) (.inl rfl) (.inl rfl) (.inl rfl))
    unfold State.startSending
    split
    · exact sends _
    · split
      · exact sends _
      · exact .refl
    all_goals exact .refl
  | endsSending =>
    have sends : s.link.Steps { s.link with tx := .idle } :=
      .single (.line _ rfl rfl rfl (.inl rfl) (.inl rfl) (.inl rfl) (.inl rfl))
    unfold State.endSending
    split
    · exact .refl
    · split
      · rename_i hr
        split
        · rw [(beginStartUp_outer _).link]
          exact .single (.reset _)
        · exact .single (.line _ rfl rfl rfl (.inr ⟨_, hr⟩) (.inl rfl) (.inl rfl) (.inl rfl))
      · exact sends
    · exact sends
  | resendExpires seq => exact .refl
  | takes r rest u hi hl hq ha => exact answersBy_link hi hl hq ha

theorem flush_link (s : State) (order : List ReportId) : (s.flush order).link = s.link := by
  obtain ⟨es, he⟩ := flush_eq s order
  rw [he]

/-- A property of the link that every change keeps, and the rate code has no part in, is kept by every step. -/
theorem link_step_keeps {Q : Link → Prop} (hQ : ∀ x y : Link, Q x → x.Changes y → Q y)
    (hrate : ∀ (x : Link) (rate : Fin 4), Q x → Q { x with rate := rate }) {s t : State} (hs : Q s.link)
    (h : step s = .next t) : Q t.link := by
  have steps : ∀ {x y : Link}, Q x → x.Steps y → Q y := by
    intro x y hx h
    induction h with
    | refl => exact hx
    | tail _ h ih => exact hQ _ _ ih h
  have hP : Settled fun s => Q s.link :=
    ⟨fun _ _ h => h, fun _ _ h => h, fun _ _ h => h, fun s order h => by rw [flush_link]; exact h⟩
  refine hP.step_keeps (fun _ => hQ _ _ hs (.reset 0)) (fun i s u _ hs ha => steps hs (actsBy_link (ha.by (K := False) fun k => k.elim))) ?_ hs h
  intro q a b h
  rcases resetDeassert_cases h with rfl | ⟨-, rfl⟩
  · exact hs
  · refine hP.flush _ _ ?_
    rw [(beginStartUp_outer _).link]
    exact hrate _ _ hs

/-! ### The bounds of the link (R165, R168, R169, R171) -/

/-- The bounds of `State.LinkOk`, of the link alone. -/
def Link.Bounded (x : Link) : Prop :=
  x.queue.length ≤ 4 ∧ x.cache.length ≤ 4 ∧ x.replies.length ≤ 5
    ∧ ((∃ r w, x.handler = .serving r w) → x.replies.length ≤ 4)
    ∧ x.lengthDiscards ≤ 65535 ∧ x.gapDiscards ≤ 65535 ∧ x.checkDiscards ≤ 65535

theorem linkOk_iff (s : State) : s.LinkOk ↔ s.link.Bounded := Iff.rfl

theorem countUp_le {n : Nat} (h : n ≤ 65535) : countUp n ≤ 65535 := by
  unfold countUp Config.maxCount
  split <;> omega

theorem appendIfRoom_bounded {x : Link} (hx : x.Bounded) (frame : List Byte) : (x.appendIfRoom frame).Bounded := by
  obtain ⟨h1, h2, h3, h4, h5⟩ := hx
  unfold Link.appendIfRoom
  split
  · rename_i hl
    have hl' : (x.replies ++ [(⟨frame, false⟩ : Reply)]).length ≤ 4 := by
      rw [List.length_append]
      exact hl
    exact ⟨h1, h2, hl'.trans (by omega), fun _ => hl', h5⟩
  · exact ⟨h1, h2, h3, h4, h5⟩

theorem accept_bounded {x : Link} (hx : x.Bounded) (f : Frame) : (x.accept f).Bounded := by
  unfold Link.accept
  split
  · exact hx
  · split
    · exact appendIfRoom_bounded hx _
    · split
      · exact appendIfRoom_bounded hx _
      · rename_i hq
        refine ⟨?_, hx.2⟩
        simp only [Config.queueDepth] at hq
        simp only [List.length_append, List.length_cons, List.length_nil]
        omega

theorem respond_bounded {x : Link} (hx : x.Bounded) (hl : x.replies.length ≤ 4) (r : Request) (st : Status) (data : List Byte)
    (restart : Bool) : (x.respond r st data restart).Bounded := by
  obtain ⟨h1, h2, -, -, h5⟩ := hx
  rw [respond_eq]
  refine ⟨h1, ?_, ?_, ?_, h5⟩
  · simp only [List.length_drop, List.length_append, List.length_cons, List.length_nil]
    omega
  · simp only [List.length_append, List.length_cons, List.length_nil]
    omega
  · rintro ⟨r', w, h⟩
    cases restart <;> simp at h

theorem changes_bounded {x y : Link} (hx : x.Bounded) (h : x.Changes y) : y.Bounded := by
  have hx' := hx
  obtain ⟨h1, h2, h3, h4, h5, h6, h7⟩ := hx'
  cases h with
  | line y hq hh hc hr d1 d2 d3 =>
    have hle : y.replies.length ≤ x.replies.length := by
      rcases hr with e | ⟨a, e⟩ <;> simp [e]
    have count : ∀ {m n : Nat}, n ≤ 65535 → (m = n ∨ m = countUp n) → m ≤ 65535 := by
      rintro m n hn (rfl | rfl)
      · exact hn
      · exact countUp_le hn
    exact ⟨hq ▸ h1, hc ▸ h2, hle.trans h3, fun hw => hle.trans (h4 (hh ▸ hw)), count h5 d1, count h6 d2, count h7 d3⟩
  | accept f => exact accept_bounded hx f
  | forget => exact ⟨h1, Nat.zero_le 4, h3, h4, h5, h6, h7⟩
  | completes r w st data hh => exact respond_bounded hx (h4 ⟨r, w, hh⟩) r st data false
  | answers r rest st data restart hi hl hq =>
    have hrest : rest.length ≤ 4 := by
      rw [hq, List.length_cons] at h1; omega
    exact respond_bounded (x := { x with queue := rest }) ⟨hrest, hx.2⟩ (by exact hl.le) r st data restart
  | serves r rest w hi hl hq =>
    have hrest : rest.length ≤ 4 := by
      rw [hq, List.length_cons] at h1; omega
    exact ⟨hrest, h2, h3, fun _ => hl.le, h5, h6, h7⟩
  | reset rate =>
    refine ⟨Nat.zero_le _, Nat.zero_le _, Nat.zero_le _, fun _ => Nat.zero_le _, Nat.zero_le _, Nat.zero_le _, Nat.zero_le _⟩

theorem linkBoundsKept : Claims.LinkBoundsKept := fun s _ hs h =>
  link_step_keeps (Q := Link.Bounded) (fun _ _ => changes_bounded) (fun _ _ h => h) ((linkOk_iff s).1 hs) h

/-! ### The sequence numbers held and cached (R168, R169) -/

/-- R168: the sequence of the request in service. -/
def Handler.seqs : Handler → List Byte
  | .serving r _ => [r.seq]
  | .idle | .stopped => []

/-- The sequence numbers of the requests held and of the replies cached are distinct. -/
def Link.Distinct (x : Link) : Prop := (x.queue.map (·.seq) ++ x.handler.seqs ++ x.cache.map (·.seq)).Nodup

theorem sequencesOk_iff (s : State) : s.SequencesOk ↔ s.link.Distinct := by
  unfold State.SequencesOk Link.Distinct Handler.seqs
  cases s.link.handler <;> exact Iff.rfl

/-- R169: a reply that enters the cache brings the sequence of its request, and may push out the oldest. -/
theorem respond_distinct {x : Link} {r : Request} (h : (r.seq :: (x.queue.map (·.seq) ++ x.cache.map (·.seq))).Nodup)
    (st : Status) (data : List Byte) (restart : Bool) : (x.respond r st data restart).Distinct := by
  have hs : (x.respond r st data restart).handler.seqs = [] := by
    cases restart <;> rfl
  have hp : (x.queue.map (·.seq) ++ (x.cache.map (·.seq) ++ [r.seq])).Nodup := by
    rw [← List.append_assoc]
    exact (List.perm_append_singleton _ _).nodup_iff.2 h
  unfold Link.Distinct
  rw [hs, List.append_nil, respond_eq]
  refine hp.sublist (List.Sublist.append_left ?_ _)
  simpa using ((List.drop_sublist (x.cache.length + 1 - 4)
    (x.cache ++ [(⟨r.seq, replyFrame r.seq r.kind st data⟩ : CachedReply)])).map (·.seq))

/-- R167: a request that enters the queue has a sequence that is neither held nor cached. -/
theorem accept_distinct {x : Link} (hx : x.Distinct) (f : Frame) : (x.accept f).Distinct := by
  have room : ∀ frame, (x.appendIfRoom frame).Distinct := fun frame => by
    unfold Link.appendIfRoom
    split <;> exact hx
  unfold Link.accept
  split
  · exact hx
  · rename_i hh
    split
    · exact room _
    · rename_i hc
      split
      · exact room _
      · have hnew : f.seq ∉ x.queue.map (·.seq) ++ x.handler.seqs ++ x.cache.map (·.seq) := by
          simp only [Link.holds, Bool.or_eq_true, not_or, Bool.not_eq_true] at hh
          obtain ⟨hq, hs⟩ := hh
          simp only [List.mem_append, List.mem_map, not_or, not_exists, not_and]
          refine ⟨⟨fun r hr => by simpa using List.any_eq_false.1 hq r hr, ?_⟩, fun r hr => ?_⟩
          · cases hx : x.handler with
            | serving r w =>
              rw [hx] at hs
              simpa [Handler.seqs, eq_comm] using hs
            | _ => simp [Handler.seqs]
          · simpa using List.find?_eq_none.1 hc r hr
        unfold Link.Distinct
        have hp : ((x.queue ++ [(⟨f.seq, f.kind, f.payload⟩ : Request)]).map (·.seq) ++ x.handler.seqs
            ++ x.cache.map (·.seq)).Perm (f.seq :: (x.queue.map (·.seq) ++ x.handler.seqs ++ x.cache.map (·.seq))) := by
          simp only [List.map_append, List.map_cons, List.map_nil, List.append_assoc, List.singleton_append]
          exact List.perm_middle
        exact hp.nodup_iff.2 (List.nodup_cons.2 ⟨hnew, hx⟩)

theorem changes_distinct {x y : Link} (hx : x.Distinct) (h : x.Changes y) : y.Distinct := by
  cases h with
  | line y hq hh hc => unfold Link.Distinct; rw [hq, hh, hc]; exact hx
  | accept f => exact accept_distinct hx f
  | forget => exact hx.sublist (List.Sublist.append_left (List.nil_sublist _) _)
  | completes r w st data hh =>
    unfold Link.Distinct at hx
    rw [hh, Handler.seqs, List.append_assoc, List.singleton_append] at hx
    exact respond_distinct (List.perm_middle.nodup_iff.1 hx) st data false
  | answers r rest st data restart hi hl hq =>
    unfold Link.Distinct at hx
    rw [hq, hi, Handler.seqs, List.append_nil] at hx
    exact respond_distinct (x := { x with queue := rest }) hx st data restart
  | serves r rest w hi hl hq =>
    unfold Link.Distinct at hx
    rw [hq, hi, Handler.seqs, List.append_nil] at hx
    unfold Link.Distinct
    rw [Handler.seqs, List.append_assoc, List.singleton_append]
    exact List.perm_middle.nodup_iff.2 hx
  | reset rate => exact List.nodup_nil

theorem sequencesStayDistinct : Claims.SequencesStayDistinct := fun s t hs h =>
  (sequencesOk_iff t).2 (link_step_keeps (Q := Link.Distinct) (fun _ _ => changes_distinct) (fun _ _ h => h)
    ((sequencesOk_iff s).1 hs) h)

/-- Settles O57: each change of the link keeps its bounds, and keeps the sequences distinct. -/
theorem linkKept : Obligations.LinkKept := ⟨linkBoundsKept, sequencesStayDistinct⟩

end Sys2Proof.Machine
end

section
/-! SUPPORT. The Report Queue: what each of its operations does to its entries, and its invariant (O58). -/

namespace Sys2Proof.Machine

/-! ### The entries of the queue -/

/-- The kinds and subjects of the WAITING entries, in order. -/
def waitingIds (es : List Entry) : List ReportId := (es.filter (!·.inFlight)).map (·.id)

/-- The sequences of the IN FLIGHT entries, in order. -/
def flyingSeqs (es : List Entry) : List (Option Byte) := (es.filter (·.inFlight)).map (·.seq)

/-- R180, R182, R184: what an entry IN FLIGHT or WAITING holds, and that no resend timer runs while QUIET. -/
def Entry.Sound (quiet : Bool) (e : Entry) : Prop :=
  (e.inFlight = true → e.seq.isSome = true ∧ e.resends ≤ 3)
    ∧ (e.inFlight = false → e.seq = none ∧ e.resends = 0 ∧ e.timer = none ∧ e.due = false)
    ∧ (quiet = true → e.timer = none)

/-- The queue's invariant by its entries: the bound on its length follows from the rest, there being 13 kinds and subjects. -/
structure EntriesOk (quiet : Bool) (es : List Entry) : Prop where
  flying : (flyingSeqs es).length ≤ 2
  ids : (waitingIds es).Nodup
  seqs : (flyingSeqs es).Nodup
  sound : ∀ e ∈ es, e.Sound quiet

@[simp] theorem waitingIds_nil : waitingIds [] = [] := rfl
@[simp] theorem flyingSeqs_nil : flyingSeqs [] = [] := rfl

theorem waitingIds_cons (e : Entry) (es : List Entry) :
    waitingIds (e :: es) = if e.inFlight then waitingIds es else e.id :: waitingIds es := by
  cases h : e.inFlight <;> simp [waitingIds, h]

theorem flyingSeqs_cons (e : Entry) (es : List Entry) :
    flyingSeqs (e :: es) = if e.inFlight then e.seq :: flyingSeqs es else flyingSeqs es := by
  cases h : e.inFlight <;> simp [flyingSeqs, h]

theorem waitingIds_append (as bs : List Entry) : waitingIds (as ++ bs) = waitingIds as ++ waitingIds bs := by
  simp [waitingIds]

theorem flyingSeqs_append (as bs : List Entry) : flyingSeqs (as ++ bs) = flyingSeqs as ++ flyingSeqs bs := by
  simp [flyingSeqs]

theorem mem_waitingIds {es : List Entry} {r : ReportId} : r ∈ waitingIds es ↔ ∃ e ∈ es, e.inFlight = false ∧ e.id = r := by
  simp [waitingIds, and_assoc]

theorem length_eq (es : List Entry) : es.length = (flyingSeqs es).length + (waitingIds es).length := by
  induction es with
  | nil => rfl
  | cons e es ih =>
    rw [flyingSeqs_cons, waitingIds_cons]
    cases e.inFlight <;> simp <;> omega

/-- R177, R178: there are 13 kinds and subjects, so at most 13 entries wait. -/
theorem length_le_of_nodup {ids : List ReportId} (h : ids.Nodup) : ids.length ≤ 13 :=
  (List.subperm_of_subset h (l₂ := tableOrder) fun r _ => mem_tableOrder r).length_le

theorem ok_iff (q : ReportQueue) : q.Ok ↔ EntriesOk q.quiet q.entries := by
  constructor
  · rintro ⟨-, h2, h3, h4, h5, h6, h7⟩
    exact ⟨by simpa [flyingSeqs, ReportQueue.flying] using h2, h3, h4, fun e he => ⟨h5 e he, h6 e he, fun hq => h7 hq e he⟩⟩
  · rintro ⟨h2, h3, h4, h5⟩
    refine ⟨?_, by simpa [flyingSeqs, ReportQueue.flying] using h2, h3, h4, fun e he => (h5 e he).1, fun e he => (h5 e he).2.1,
      fun hq e he => (h5 e he).2.2 hq⟩
    have := length_le_of_nodup h3
    rw [length_eq]
    omega

/-! ### Operations that leave every entry's kind, subject, status and sequence -/

/-- Two entries of one kind, subject, status and sequence. -/
def Entry.Like (a b : Entry) : Prop := b.id = a.id ∧ b.inFlight = a.inFlight ∧ b.seq = a.seq

theorem like_ids {es fs : List Entry} (h : List.Forall₂ Entry.Like es fs) :
    waitingIds fs = waitingIds es ∧ flyingSeqs fs = flyingSeqs es := by
  induction h with
  | nil => exact ⟨rfl, rfl⟩
  | @cons a b as bs hab _ ih =>
    obtain ⟨hi, hf, hs⟩ := hab
    rw [waitingIds_cons, waitingIds_cons, flyingSeqs_cons, flyingSeqs_cons, hi, hf, hs, ih.1, ih.2]
    exact ⟨rfl, rfl⟩

/-- Entries changed one by one, in place, stay in order if each change leaves a sound entry of the same kind, subject, status
and sequence. -/
theorem EntriesOk.changed {b b' : Bool} {es fs : List Entry} (h : EntriesOk b es)
    (hR : List.Forall₂ (fun x y => x.Like y ∧ (x.Sound b → y.Sound b')) es fs) : EntriesOk b' fs := by
  obtain ⟨hi, hs⟩ := like_ids (hR.imp fun _ _ h => h.1)
  refine ⟨hs ▸ h.flying, hi ▸ h.ids, hs ▸ h.seqs, ?_⟩
  intro f hf
  have key : ∀ {es fs : List Entry}, List.Forall₂ (fun x y => x.Like y ∧ (x.Sound b → y.Sound b')) es fs →
      (∀ e ∈ es, e.Sound b) → ∀ f ∈ fs, f.Sound b' := by
    intro es fs hR
    induction hR with
    | nil => simp
    | cons hab _ ih =>
      intro he f hf
      rcases List.mem_cons.1 hf with rfl | hf
      · exact hab.2 (he _ (by simp))
      · exact ih (fun e hm => he e (by simp [hm])) f hf
  exact key hR h.sound f hf

theorem forall₂_map {R : Entry → Entry → Prop} (g : Entry → Entry) (h : ∀ e, R e (g e)) (es : List Entry) :
    List.Forall₂ R es (es.map g) := by
  rw [List.forall₂_map_right_iff]
  exact List.forall₂_same.2 fun e _ => h e

/-- `changeFirst` changes the entry that is found, and no other. -/
theorem forall₂_changeFirst {p : Entry → Bool} {f : Entry → Entry} {e : Entry} {R : Entry → Entry → Prop}
    (hr : ∀ x, R x x) (he : R e (f e)) {es : List Entry} (h : es.find? p = some e) :
    List.Forall₂ R es (changeFirst p f es) := by
  induction es with
  | nil => cases h
  | cons a as ih =>
    rw [changeFirst]
    by_cases hp : p a = true
    · rw [List.find?_cons_of_pos hp] at h
      cases h
      rw [if_pos hp]
      exact .cons he (List.forall₂_same.2 fun x _ => hr x)
    · rw [List.find?_cons_of_neg hp] at h
      rw [if_neg hp]
      exact .cons (hr a) (ih h)

theorem endQuiet_ok {q : ReportQueue} (h : q.Ok) : q.endQuiet.Ok := by
  unfold ReportQueue.endQuiet
  split
  · rw [ok_iff] at h ⊢
    refine h.changed (forall₂_map _ (fun e => ?_) _)
    split
    · rename_i hf
      exact ⟨⟨rfl, rfl, rfl⟩, fun hs => ⟨fun _ => ⟨(hs.1 hf).1, Nat.zero_le 3⟩, fun hn => by simp [hf] at hn, by simp⟩⟩
    · exact ⟨⟨rfl, rfl, rfl⟩, fun hs => ⟨hs.1, hs.2.1, by simp⟩⟩
  · exact h

theorem sent_ok {q : ReportQueue} (h : q.Ok) (seq : Byte) : (q.sent seq).Ok := by
  rw [ok_iff] at h ⊢
  refine h.changed (forall₂_map _ (fun e => ?_) _)
  split
  · rename_i hc
    obtain ⟨hf, -, hq, -⟩ := hc
    exact ⟨⟨rfl, rfl, rfl⟩, fun hs => ⟨hs.1, fun hn => by simp [hf] at hn, fun hq' => by
      rw [show (q.sent seq).quiet = q.quiet from rfl, hq] at hq'; cases hq'⟩⟩
  · exact ⟨⟨rfl, rfl, rfl⟩, id⟩

theorem expire_ok {q : ReportQueue} (h : q.Ok) (seq : Byte) : (q.expire seq).Ok := by
  unfold ReportQueue.expire
  split
  · exact h
  · rename_i e he
    have hf : e.inFlight = true := by
      have := List.find?_some he
      simp only [Entry.expires, Bool.and_eq_true] at this
      exact this.1.1
    rw [ok_iff] at h
    split
    · rename_i hr
      rw [ok_iff]
      refine h.changed (forall₂_changeFirst (fun x => ⟨⟨rfl, rfl, rfl⟩, id⟩) ?_ he)
      exact ⟨⟨rfl, rfl, rfl⟩, fun hs => ⟨fun _ => ⟨(hs.1 hf).1, hr⟩, fun hn => by simp [hf] at hn, fun _ => rfl⟩⟩
    · rw [ok_iff]
      refine h.changed (forall₂_map _ (fun e => ⟨⟨rfl, rfl, rfl⟩, fun hs => ⟨hs.1, fun hn => ?_, fun _ => rfl⟩⟩) _)
      obtain ⟨h1, h2, -, h4⟩ := hs.2.1 hn
      exact ⟨h1, h2, rfl, h4⟩

/-! ### Acknowledgement and placing -/

theorem ack_ok {q : ReportQueue} (h : q.Ok) (seq : Byte) : (q.ack seq).Ok := by
  rw [ok_iff] at h ⊢
  have hsub : (q.ack seq).entries.Sublist q.entries := List.filter_sublist
  have hseqs : (flyingSeqs (q.ack seq).entries).Sublist (flyingSeqs q.entries) := (hsub.filter _).map _
  exact ⟨hseqs.length_le.trans h.flying, h.ids.sublist ((hsub.filter _).map _), h.seqs.sublist hseqs,
    fun e he => h.sound e (hsub.subset he)⟩

/-- R180: a submission leaves the entries IN FLIGHT, and adds a kind and subject where none of it waits. -/
theorem placeEntry_ids (r : ReportId) (x : Content) (es : List Entry) :
    flyingSeqs (placeEntry r x es) = flyingSeqs es
      ∧ waitingIds (placeEntry r x es) = if r ∈ waitingIds es then waitingIds es else waitingIds es ++ [r] := by
  induction es with
  | nil => exact ⟨rfl, rfl⟩
  | cons e es ih =>
    rw [placeEntry]
    split
    · rename_i h
      obtain ⟨rfl, hf⟩ := h
      simp [flyingSeqs_cons, waitingIds_cons, hf]
    · rename_i h
      rw [flyingSeqs_cons, flyingSeqs_cons, waitingIds_cons, waitingIds_cons, ih.1, ih.2]
      refine ⟨rfl, ?_⟩
      cases hf : e.inFlight
      · have hr : ¬ r = e.id := fun hr => h ⟨hr.symm, hf⟩
        by_cases hm : r ∈ waitingIds es <;> simp [hm, hr]
      · simp

theorem placeEntry_sound {quiet : Bool} {r : ReportId} {x : Content} {es : List Entry} (h : ∀ e ∈ es, e.Sound quiet) :
    ∀ e ∈ placeEntry r x es, e.Sound quiet := by
  induction es with
  | nil =>
    intro e he
    rw [placeEntry, List.mem_singleton] at he
    subst he
    simp [Entry.Sound, Entry.fresh]
  | cons a as ih =>
    intro e he
    rw [placeEntry] at he
    split at he
    · rcases List.mem_cons.1 he with rfl | he
      · exact h a (by simp)
      · exact h e (by simp [he])
    · rcases List.mem_cons.1 he with rfl | he
      · exact h e (by simp)
      · exact ih (fun y hy => h y (by simp [hy])) e he

theorem placeEntry_ok {q : ReportQueue} (h : q.Ok) (r : ReportId) (x : Content) :
    ReportQueue.Ok { q with entries := placeEntry r x q.entries } := by
  rw [ok_iff] at h ⊢
  obtain ⟨hf, hw⟩ := placeEntry_ids r x q.entries
  refine ⟨hf ▸ h.flying, ?_, hf ▸ h.seqs, placeEntry_sound h.sound⟩
  dsimp only
  rw [hw]
  split
  · exact h.ids
  · rename_i hr
    exact (List.perm_append_singleton _ _).nodup_iff.2 (List.nodup_cons.2 ⟨hr, h.ids⟩)

theorem submit_ok {s : State} (h : s.reports.Ok) (r : ReportId) : (s.submit r).reports.Ok := by
  unfold State.submit
  split
  · exact placeEntry_ok h r _
  · exact h

theorem flush_ok {s : State} (h : s.reports.Ok) (order : List ReportId) : (s.flush order).reports.Ok := by
  have key : ∀ (order m : List ReportId) (s : State), s.reports.Ok →
      (order.foldl (fun x r => if r ∈ m then x.submit r else x) s).reports.Ok := by
    intro order m
    induction order with
    | nil => exact fun _ h => h
    | cons r rs ih =>
      intro s h
      rw [List.foldl_cons]
      split
      · exact ih _ (submit_ok h r)
      · exact ih _ h
  exact key order s.raised s h

/-! ### Sending -/

/-- The entry that `changeFirst` changes, with what stands before and behind it. -/
theorem changeFirst_eq {p : Entry → Bool} {f : Entry → Entry} {e : Entry} {es : List Entry} (h : es.find? p = some e) :
    ∃ as bs, es = as ++ e :: bs ∧ (∀ a ∈ as, p a = false) ∧ p e = true ∧ changeFirst p f es = as ++ f e :: bs := by
  induction es with
  | nil => cases h
  | cons a as ih =>
    by_cases hp : p a = true
    · rw [List.find?_cons_of_pos hp] at h
      cases h
      exact ⟨[], as, rfl, by simp, hp, by simp [changeFirst, hp]⟩
    · rw [List.find?_cons_of_neg hp] at h
      obtain ⟨bs, cs, rfl, hb, he, hc⟩ := ih h
      refine ⟨a :: bs, cs, rfl, ?_, he, by simp [changeFirst, hp, hc]⟩
      simpa [hp] using hb

/-- R182: the sequence of a first send is that of no entry IN FLIGHT, where at most one is. -/
theorem nextSeq_new {q : ReportQueue} (h : (flyingSeqs q.entries).length < 2) : some q.nextSeq ∉ flyingSeqs q.entries := by
  have hany : q.flying.any (·.seq = some q.counter) = true ↔ some q.counter ∈ flyingSeqs q.entries := by
    simp [ReportQueue.flying, flyingSeqs, and_assoc]
  unfold ReportQueue.nextSeq
  split
  · rename_i hc
    have hmem := hany.1 hc
    obtain ⟨a, ha⟩ : ∃ a, flyingSeqs q.entries = [a] := by
      apply List.length_eq_one_iff.1
      have := List.length_pos_of_mem hmem
      omega
    rw [ha, List.mem_singleton] at hmem ⊢
    rw [← hmem]
    intro e
    have : q.counter + 1 = q.counter := Option.some.inj e
    simp at this
  · rename_i hc
    exact fun hm => hc (hany.2 hm)

theorem start_ok {q q' : ReportQueue} {n : Byte} {frame : List Byte} (h : q.Ok) (hs : q.start = some (n, frame, q')) :
    q'.Ok := by
  rw [ok_iff] at h
  unfold ReportQueue.start at hs
  split at hs
  · cases hs
  · rename_i hquiet
    split at hs
    · rename_i e he
      split at hs
      · cases hs
        rw [ok_iff]
        refine h.changed (forall₂_changeFirst (fun x => ⟨⟨rfl, rfl, rfl⟩, id⟩) ?_ he)
        refine ⟨⟨rfl, rfl, rfl⟩, fun hx => ⟨hx.1, fun hn => ?_, hx.2.2⟩⟩
        obtain ⟨h1, h2, h3, -⟩ := hx.2.1 hn
        exact ⟨h1, h2, h3, rfl⟩
      · cases hs
    · split at hs
      · rename_i hroom
        split at hs
        · rename_i e he
          cases hs
          rw [ok_iff]
          have hlt : (flyingSeqs q.entries).length < 2 := by
            simpa [ReportQueue.hasRoom, ReportQueue.flying, flyingSeqs, Config.window] using hroom
          have hnew := nextSeq_new hlt
          have hfirst := changeFirst_eq (f := fun e => { e with inFlight := true, seq := some q.nextSeq }) he
          obtain ⟨as, bs, hes, -, hp, hc⟩ := hfirst
          have hw : e.inFlight = false := by simpa using hp
          have hseqs : flyingSeqs q.entries = flyingSeqs as ++ flyingSeqs bs := by
            rw [hes, flyingSeqs_append, flyingSeqs_cons, hw]; simp
          have hperm : (flyingSeqs (as ++ { e with inFlight := true, seq := some q.nextSeq } :: bs)).Perm
              (some q.nextSeq :: flyingSeqs q.entries) := by
            rw [flyingSeqs_append, flyingSeqs_cons, hseqs]
            exact List.perm_middle
          dsimp only
          rw [hc]
          refine ⟨?_, ?_, hperm.nodup_iff.2 (List.nodup_cons.2 ⟨hnew, h.seqs⟩), ?_⟩
          · rw [hperm.length_eq, List.length_cons]; omega
          · refine h.ids.sublist ?_
            rw [hes, waitingIds_append, waitingIds_append, waitingIds_cons, waitingIds_cons, hw]
            exact List.Sublist.append_left (List.sublist_cons_self ..) _
          · intro x hx
            rcases List.mem_append.1 hx with hx | hx
            · exact h.sound x (by simp [hes, hx])
            · rcases List.mem_cons.1 hx with rfl | hx
              · obtain ⟨-, h2, h3⟩ := h.sound e (by simp [hes])
                obtain ⟨-, hr, -⟩ := h2 hw
                exact ⟨fun _ => ⟨rfl, by simp [hr]⟩, by simp, h3⟩
              · exact h.sound x (by simp [hes, hx])
        · cases hs
      · cases hs

/-! ### Break (R188) -/

/-- After a break every entry waits, and it stood in the queue: WAITING, or IN FLIGHT with no entry of its kind and subject
waiting. -/
theorem mem_breakEntries {w : List ReportId} {es : List Entry} {x : Entry} (h : x ∈ breakEntries w es) :
    (x ∈ es ∧ x.inFlight = false) ∨ ∃ e ∈ es, e.inFlight = true ∧ e.id ∉ w ∧ x = e.returned := by
  induction es with
  | nil => cases h
  | cons e es ih =>
    have rest : x ∈ breakEntries w es → (x ∈ e :: es ∧ x.inFlight = false)
        ∨ ∃ y ∈ e :: es, y.inFlight = true ∧ y.id ∉ w ∧ x = y.returned := fun h => (ih h).imp (fun h => ⟨List.mem_cons_of_mem e h.1, h.2⟩)
      fun ⟨y, hy, h⟩ => ⟨y, List.mem_cons_of_mem e hy, h⟩
    rw [breakEntries] at h
    split at h
    · rename_i hf
      split at h
      · exact rest h
      · rename_i hr
        rcases List.mem_cons.1 h with rfl | h
        · exact .inr ⟨e, by simp, hf, fun hm => hr (.inl hm), rfl⟩
        · exact rest h
    · rename_i hf
      rcases List.mem_cons.1 h with rfl | h
      · exact .inl ⟨by simp, by simpa using hf⟩
      · exact rest h

theorem breakEntries_nodup (w : List ReportId) (es : List Entry) (hw : ∀ r ∈ waitingIds es, r ∈ w) (hn : (waitingIds es).Nodup) :
    ((breakEntries w es).map (·.id)).Nodup := by
  induction es with
  | nil => exact List.nodup_nil
  | cons e es ih =>
    rw [waitingIds_cons] at hw hn
    rw [breakEntries]
    split
    · rename_i hf
      rw [if_pos hf] at hw hn
      split
      · exact ih hw hn
      · rename_i hr
        rw [not_or] at hr
        refine List.nodup_cons.2 ⟨fun hm => ?_, ih hw hn⟩
        obtain ⟨x, hx, hid⟩ := List.mem_map.1 hm
        rcases mem_breakEntries hx with ⟨hxe, hxf⟩ | ⟨y, hy, hyf, -, rfl⟩
        · exact hr.1 (hw _ (mem_waitingIds.2 ⟨x, hxe, hxf, hid⟩))
        · exact hr.2 (List.any_eq_true.2 ⟨y, hy, by simpa [hyf, Entry.returned] using hid⟩)
    · rename_i hf
      rw [if_neg hf] at hw hn
      obtain ⟨hne, hn⟩ := List.nodup_cons.1 hn
      refine List.nodup_cons.2 ⟨fun hm => ?_, ih (fun r hr => hw r (by simp [hr])) hn⟩
      obtain ⟨x, hx, hid⟩ := List.mem_map.1 hm
      rcases mem_breakEntries hx with ⟨hxe, hxf⟩ | ⟨y, hy, -, hyw, rfl⟩
      · exact hne (mem_waitingIds.2 ⟨x, hxe, hxf, hid⟩)
      · exact hyw (by rw [show y.id = e.id from hid]; exact hw _ (by simp))

theorem atBreak_ok {q : ReportQueue} (h : q.Ok) : q.atBreak.Ok := by
  rw [ok_iff] at h ⊢
  have hwait : ∀ x ∈ q.atBreak.entries, x.inFlight = false ∧ x.Sound false := by
    intro x hx
    rcases mem_breakEntries hx with ⟨hxe, hxf⟩ | ⟨y, -, -, -, rfl⟩
    · exact ⟨hxf, (h.sound x hxe).1, (h.sound x hxe).2.1, by simp⟩
    · exact ⟨rfl, by simp [Entry.Sound, Entry.returned]⟩
  have hnone : flyingSeqs q.atBreak.entries = [] := by
    rw [flyingSeqs, List.map_eq_nil_iff, List.filter_eq_nil_iff]
    intro x hx
    simp [(hwait x hx).1]
  refine ⟨by simp [hnone], ?_, by simp [hnone], fun e he => (hwait e he).2⟩
  exact (breakEntries_nodup _ _ (fun _ hr => hr) h.ids).sublist (List.filter_sublist.map _)

/-! ### The invariant -/

variable {K : Prop} {s u : State}

theorem works_reports (h : State.Works K s u) : u.reports = s.reports := by
  induction h with
  | refl => rfl
  | tail _ h ih =>
    rcases h with h | ⟨r, w, st, data, -, rfl⟩
    · exact (does_outer h).reports.trans ih
    · exact ih

theorem goodFrame_ok (h : s.reports.Ok) : s.goodFrame.reports.Ok := endQuiet_ok h

theorem receiveByte_ok (h : s.reports.Ok) (b : Byte) : (s.receiveByte b).reports.Ok := by
  unfold State.receiveByte
  split
  · exact h
  · exact h
  · exact h
  · rw [State.takeData, works_reports (dataFrame_works (K := False) ..)]
    exact goodFrame_ok h
  · unfold State.takeAck
    split
    · exact ack_ok (goodFrame_ok h) _
    all_goals exact goodFrame_ok h
  · exact goodFrame_ok h

theorem reset_ok : ReportQueue.reset.Ok :=
  (ok_iff _).2 ⟨Nat.zero_le 2, List.nodup_nil, List.nodup_nil, fun _ he => absurd he List.not_mem_nil⟩

theorem actsBy_ok {i : Instr} (h : s.reports.Ok) (ha : State.ActsBy i K s u) : u.reports.Ok := by
  cases ha with
  | works u hw => rw [works_reports hw]; exact h
  | receives b => exact receiveByte_ok h b
  | discards => exact h
  | gapExpires => exact h
  | breaks => exact atBreak_ok h
  | startsSending =>
    unfold State.startSending
    split
    · exact h
    · split
      · rename_i hq
        exact start_ok h hq
      · exact h
    all_goals exact h
  | endsSending =>
    unfold State.endSending
    split
    · exact h
    · split
      · split
        · rw [(beginStartUp_outer _).reports]; exact reset_ok
        · exact h
      · exact h
    · exact sent_ok h _
  | resendExpires seq => exact expire_ok h seq
  | takes r rest u hi hl hq ha =>
    obtain ⟨g, s1, -, h1, ⟨st, data, restart, rfl⟩ | ⟨w, h2⟩⟩ := ha
    · rw [State.updLink_reports, (quietWorks_outer h1).reports]; exact h
    · rw [works_reports h2, State.serve_reports, (quietWorks_outer h1).reports]; exact h

/-- Settles O58: each operation of the Report Queue keeps its invariant. -/
theorem reportQueueKept : Obligations.ReportQueueKept := by
  intro s t hs h
  have hP : Settled fun s => s.reports.Ok :=
    ⟨fun _ _ h => h, fun _ _ h => h, fun _ _ h => h, fun s order h => flush_ok h order⟩
  refine hP.step_keeps (fun _ => reset_ok) (fun i s u _ hs ha => actsBy_ok hs (ha.by (K := False) fun k => k.elim)) ?_ hs h
  intro q a b h
  rcases resetDeassert_cases h with rfl | ⟨-, rfl⟩
  · exact hs
  · refine flush_ok ?_ _
    rw [(beginStartUp_outer _).reports]
    exact hs

end Sys2Proof.Machine
end

section
/-! SUPPORT. Where work on a running job leaves it: still running on its channel, or in the place its new state says, with its
line as R127 wants it. Said once for each operation of the search and of the channels. -/

namespace Sys2Proof.Machine

/-! ### The state of a job, set -/

theorem updJob_job {s : State} {t : Target} {j : Job} (hj : s.job t = some j) (f : Job → Job) : (s.updJob t f).job t = some (f j) := by
  have hj' : (s.jobs.get t).job = some j := hj
  simp [State.job, hj']

theorem setJobState_job {s : State} {t : Target} {j : Job} (hj : s.job t = some j) (x : JobState) :
    (s.setJobState t x).job t = some { j with state := x } := by
  unfold State.setJobState
  rw [hj]
  dsimp only
  split
  · rename_i h
    rw [hj, ← h]
  · exact updJob_job hj _

@[simp] theorem setJobState_channels (s : State) (t : Target) (x : JobState) : (s.setJobState t x).channels = s.channels := by
  unfold State.setJobState
  split
  · rfl
  · split <;> rfl

@[simp] theorem setJobState_queues (s : State) (t : Target) (x : JobState) : (s.setJobState t x).queues = s.queues := by
  unfold State.setJobState
  split
  · rfl
  · split <;> rfl

@[simp] theorem setJobState_lines (s : State) (t : Target) (x : JobState) : (s.setJobState t x).lines = s.lines := by
  unfold State.setJobState
  split
  · rfl
  · split <;> rfl

@[simp] theorem setJobState_store (s : State) (t : Target) (x : JobState) : (s.setJobState t x).store = s.store := by
  unfold State.setJobState
  split
  · rfl
  · split <;> rfl

@[simp] theorem cancelHost_channels (s : State) (t : Target) : (s.cancelHost t).channels = s.channels := by rw [cancelHost_eq]
@[simp] theorem cancelHost_queues (s : State) (t : Target) : (s.cancelHost t).queues = s.queues := by rw [cancelHost_eq]
@[simp] theorem cancelHost_lines (s : State) (t : Target) : (s.cancelHost t).lines = s.lines := by rw [cancelHost_eq]
@[simp] theorem cancelHost_jobs (s : State) (t : Target) : (s.cancelHost t).jobs = s.jobs := by rw [cancelHost_eq]

/-- R48: a log that is appended to keeps at most 16 entries. -/
theorem appendLog_length (log : List LogEntry) (e : LogEntry) : (appendLog log e).length ≤ 16 := by
  simp only [appendLog, Config.logDepth, List.length_drop, List.length_append]
  omega

theorem recordOutcome_log {j : Job} (h : j.log.length ≤ 16) (o : AttemptOutcome) : (j.recordOutcome o).log.length ≤ 16 := by
  unfold Job.recordOutcome
  dsimp only
  split
  · exact appendLog_length ..
  all_goals exact h

/-! ### Places in the wait queues -/

theorem insertByClass_perm (cls : Target → Fin 4) (t : Target) (us : List Target) : (insertByClass cls t us).Perm (t :: us) := by
  induction us with
  | nil => exact .refl _
  | cons u us ih =>
    rw [insertByClass]
    split
    · exact .refl _
    · exact (ih.cons u).trans (.swap t u us)

theorem queueCount_enterQueue (s : State) (t v : Target) :
    (s.enterQueue t).queueCount v = s.queueCount v + if v = t then 1 else 0 := by
  have key : ∀ cls us, List.count v (insertByClass cls t us) = List.count v us + if v = t then 1 else 0 := fun cls us => by
    rw [(insertByClass_perm cls t us).count_eq, List.count_cons]
    by_cases h : v = t
    · simp [h]
    · simp [h, Ne.symm h]
  unfold State.enterQueue
  generalize s.settings.classMap (s.record t).cls = d
  cases d with
  | a =>
    show List.count v (insertByClass _ t (s.queues.get .a)) + List.count v (s.queues.get .b) = _
    rw [key, State.queueCount]; omega
  | b =>
    show List.count v (s.queues.get .a) + List.count v (insertByClass _ t (s.queues.get .b)) = _
    rw [key, State.queueCount]; omega

/-! ### A job at work -/

/-- R127: the line of a target of kind `kind` stands as its job `k` wants it. -/
def Job.LineHeld (k : Job) (kind : Kind) (line : LineState) : Prop :=
  (kind = .memory → k.state.isFinal = false → line = .asserted) ∧ (kind = .lane → k.state.holdsLane = true → line = .asserted)

theorem Job.LineHeld.of_asserted (k : Job) (kind : Kind) {line : LineState} (h : line = .asserted) : k.LineHeld kind line :=
  ⟨fun _ _ => h, fun _ _ => h⟩

theorem Job.LineHeld.of_final {k : Job} (h : k.state.isFinal = true) (kind : Kind) (line : LineState) : k.LineHeld kind line := by
  refine ⟨fun _ hn => by simp [h] at hn, fun _ hl => ?_⟩
  cases hs : k.state <;> simp [hs, JobState.isFinal, JobState.holdsLane] at h hl

/-- R127: a job that searches or drains holds the line, whatever its target's kind. -/
theorem Job.LineHeld.asserted {k : Job} {kind : Kind} {line : LineState} (h : k.LineHeld kind line)
    (hs : k.state = .probing ∨ k.state = .draining) : line = .asserted := by
  cases kind
  · exact h.2 rfl (by rcases hs with hs | hs <;> rw [hs] <;> rfl)
  · exact h.1 rfl (by rcases hs with hs | hs <;> rw [hs] <;> rfl)

/-- R11, R48, R51: `t`'s job `j` runs on channel `c`, has no final outcome and no more than 16 log entries. -/
structure State.Runs (c : Chan) (t : Target) (s : State) (j : Job) : Prop where
  channel : (s.channels.get c).running = some t
  job : s.job t = some j
  state : j.state.isRunning = true
  final : j.final = none
  log : j.log.length ≤ 16

/-- `v` comes from `s` by work on `t`'s job on channel `c`, which still runs, as job `j`. -/
structure State.Reaches (c : Chan) (t : Target) (s v : State) (j : Job) : Prop where
  runs : v.Runs c t j
  queues : v.queues = s.queues
  kind : (v.record t).kind = (s.record t).kind

/-- `u` comes from `s` by work on `t`'s job, which ran on channel `c` and now stands where its state says; where `A` held, its
line is held as R127 wants it. -/
def State.Leads (c : Chan) (t : Target) (A : Prop) (s u : State) : Prop :=
  ∃ k, u.job t = some k ∧ k.log.length ≤ 16 ∧ k.final.isSome = k.state.isFinal
    ∧ (u.channels.get c).running = (if k.state.isRunning then some t else none)
    ∧ (∀ v, u.queueCount v = s.queueCount v + if v = t ∧ k.state = .queued then 1 else 0)
    ∧ (A → k.LineHeld (s.record t).kind (u.lines.get t).line)

variable {c : Chan} {t : Target} {s v u : State} {j k : Job} {A B : Prop}

theorem State.Runs.reaches (h : s.Runs c t j) : State.Reaches c t s s j := ⟨h, rfl, rfl⟩

theorem JobState.isRunning_iff (x : JobState) :
    x.isRunning = true ↔ x = .probing ∨ x = .streaming ∨ x = .finishing ∨ x = .draining := by
  cases x <;> simp [JobState.isRunning]

theorem running_not_final {x : JobState} (h : x.isRunning = true) : x.isFinal = false ∧ x ≠ .queued := by
  cases x <;> simp [JobState.isRunning, JobState.isFinal] at h ⊢

/-- A job that still runs stands where its state says. -/
theorem State.Reaches.leads (h : State.Reaches c t s v j) (hl : A → j.LineHeld (s.record t).kind (v.lines.get t).line) :
    State.Leads c t A s v := by
  obtain ⟨⟨hc, hj, hs, hf, hlog⟩, hq, -⟩ := h
  obtain ⟨hn, hqu⟩ := running_not_final hs
  exact ⟨j, hj, hlog, by rw [hf, hn]; rfl, by rw [hs]; simpa using hc, fun v => by simp [State.queueCount, hq, hqu], hl⟩

theorem State.Leads.from (h : State.Leads c t A v u) (r : State.Reaches c t s v j) : State.Leads c t A s u := by
  obtain ⟨k, hk, hlog, hf, hc, hq, hl⟩ := h
  exact ⟨k, hk, hlog, hf, hc, fun w => by rw [hq w]; simp [State.queueCount, r.queues], fun a => r.kind ▸ hl a⟩

theorem State.Leads.mono (h : State.Leads c t A s u) (hab : B → A) : State.Leads c t B s u := by
  obtain ⟨k, hk, hlog, hf, hc, hq, hl⟩ := h
  exact ⟨k, hk, hlog, hf, hc, hq, fun b => hl (hab b)⟩

/-! ### Steps that leave the job running -/

theorem State.Reaches.channel (h : State.Reaches c t s v j) (f : Channel → Channel) (hr : ∀ x, (f x).running = x.running) :
    State.Reaches c t s (v.updChannel c f) j := by
  obtain ⟨⟨hc, hj, hs, hf, hl⟩, hq, hk⟩ := h
  exact ⟨⟨by simpa [hr] using hc, hj, hs, hf, hl⟩, hq, hk⟩

theorem State.Reaches.raise (h : State.Reaches c t s v j) (r : ReportId) : State.Reaches c t s (v.raise r) j := by
  obtain ⟨⟨hc, hj, hs, hf, hl⟩, hq, hk⟩ := h
  exact ⟨⟨hc, hj, hs, hf, hl⟩, hq, hk⟩

theorem State.Reaches.line (h : State.Reaches c t s v j) (f : TargetPort → TargetPort) :
    State.Reaches c t s (v.updLine t f) j := by
  obtain ⟨⟨hc, hj, hs, hf, hl⟩, hq, hk⟩ := h
  exact ⟨⟨hc, hj, hs, hf, hl⟩, hq, hk⟩

theorem State.Reaches.job (h : State.Reaches c t s v j) (f : Job → Job) (hs : (f j).state.isRunning = true)
    (hf : (f j).final = none) (hl : (f j).log.length ≤ 16) : State.Reaches c t s (v.updJob t f) (f j) := by
  obtain ⟨⟨hc, hj, -⟩, hq, hk⟩ := h
  exact ⟨⟨hc, updJob_job hj f, hs, hf, hl⟩, hq, hk⟩

theorem State.Reaches.setState (h : State.Reaches c t s v j) {x : JobState} (hx : x.isRunning = true) :
    State.Reaches c t s (v.setJobState t x) { j with state := x } := by
  obtain ⟨⟨hc, hj, -, hf, hl⟩, hq, hk⟩ := h
  exact ⟨⟨by simpa using hc, setJobState_job hj x, hx, hf, hl⟩, by simpa using hq, by simpa [State.record] using hk⟩

theorem State.Reaches.record (h : State.Reaches c t s v j) (o : AttemptOutcome) :
    State.Reaches c t s (v.recordOutcome t o) (j.recordOutcome o) :=
  (h.job (·.recordOutcome o) h.runs.state h.runs.final (recordOutcome_log h.runs.log o)).raise _

theorem State.Reaches.dropHead (h : State.Reaches c t s v j) :
    State.Reaches c t s (v.dropHead t) { j with candidates := j.candidates.tail } :=
  h.job _ h.runs.state h.runs.final h.runs.log

theorem State.Reaches.startAttempt (h : State.Reaches c t s v j) (p : Position) (ph : Phase) :
    ∃ k, State.Reaches c t s (v.startAttempt c t p ph) k ∧ k.state = j.state := by
  unfold State.startAttempt
  exact ⟨_, (h.job (fun j =>
    { j with tag := j.tag + 1, position := some p, phase := some ph, delivered := 0, entry := some (v.source p) })
    h.runs.state h.runs.final h.runs.log).channel _ (by exact fun _ => rfl), rfl⟩

theorem State.Reaches.startProbe (h : State.Reaches c t s v j) (p : Position) :
    ∃ k, State.Reaches c t s (v.startProbe c t p) k ∧ k.state = .probing := by
  obtain ⟨k, hk, -⟩ := h.startAttempt p .probe
  exact ⟨_, hk.setState rfl, rfl⟩

theorem State.Reaches.startFetch (h : State.Reaches c t s v j) (x : Candidate) :
    ∃ k, State.Reaches c t s (v.startFetch c t x) k ∧ k.state = .streaming := by
  obtain ⟨k, hk, -⟩ := h.startAttempt x.position .fetch
  have h2 := ((hk.channel (fun y => { y with params := some (streamParams x.header), check := some crc32Init })
    fun _ => rfl).setState (x := .streaming) rfl).raise (.job t)
  unfold State.startFetch
  dsimp only
  split
  · exact ⟨_, h2.line _, rfl⟩
  · exact ⟨_, h2, rfl⟩

theorem State.Reaches.refusedAtOnce (h : State.Reaches c t s v j) :
    State.Reaches c t s (v.refusedAtOnce c t) (j.recordOutcome .noPort) :=
  (h.channel (fun x => { x with issue := x.issue + 1 }) fun _ => rfl).record .noPort

theorem State.Reaches.clearAttempt (h : State.Reaches c t s v j) : State.Reaches c t s (v.clearAttempt c t) j := by
  have h1 := h.channel (fun x => { x with claim := none, slots := discard (v.readsHost t) x.slots }) fun _ => rfl
  obtain ⟨⟨hc, hj, hs, hf, hl⟩, hq, hk⟩ := h1
  have h2 : State.Reaches c t s ((v.updChannel c fun x =>
      { x with claim := none, slots := discard (v.readsHost t) x.slots }).cancelHost t) j :=
    ⟨⟨by rw [cancelHost_channels]; exact hc, by rw [State.job, cancelHost_jobs]; exact hj, hs, hf, hl⟩,
      by rw [cancelHost_queues]; exact hq, by rw [(cancelHost_frame ..).kind]; exact hk⟩
  unfold State.clearAttempt
  exact h2.line _

/-! ### Lines through the search -/

@[simp] theorem startProbe_lines (s : State) (c : Chan) (t : Target) (p : Position) : (s.startProbe c t p).lines = s.lines := by
  simp [State.startProbe, State.startAttempt]

theorem startFetch_line (s : State) (c : Chan) (t : Target) (x : Candidate) (hk : (s.record t).kind ≠ .lane) :
    (s.startFetch c t x).lines = s.lines := by
  simp [State.startFetch, hk, State.startAttempt]

@[simp] theorem refusedAtOnce_lines (s : State) (c : Chan) (t : Target) : (s.refusedAtOnce c t).lines = s.lines := rfl

@[simp] theorem assert_line (x : TargetPort) : x.assert.line = .asserted := rfl

theorem clearAttempt_line (s : State) (c : Chan) (t : Target) :
    ((s.clearAttempt c t).lines.get t).line = (s.lines.get t).line := by
  simp [State.clearAttempt, State.stopLane, TargetPort.stopLane]

/-! ### The search -/

/-- R37, R38: at the end of a pass the job is FAILED, QUEUED or in BACKOFF, and its line stays. -/
theorem endPass_leads (h : s.Runs c t j) : State.Leads c t ((s.lines.get t).line = .asserted) s (s.endPass c t) := by
  obtain ⟨-, hj, -, hf, hlog⟩ := h
  have hj' : (s.jobs.get t).job = some j := hj
  unfold State.endPass
  rw [hj]
  dsimp only
  split
  · refine ⟨{ j with state := .failed, final := some .noImage, abortPending := false }, ?_, hlog, rfl, ?_, ?_,
      Job.LineHeld.of_asserted _ _⟩
    · simp [State.finishJob, State.job, hj']
    · simp [State.finishJob, JobState.isRunning]
    · intro v; simp [State.finishJob, State.queueCount]
  · split
    · refine ⟨{ j with pass := min (j.pass + 1) Config.maxPass, state := .queued }, ?_, hlog, by simp [hf, JobState.isFinal], ?_, ?_,
        Job.LineHeld.of_asserted _ _⟩
      · simp [State.job, hj']
      · simp [JobState.isRunning]
      · intro v
        show (State.enterQueue _ t).queueCount v = _
        rw [queueCount_enterQueue]
        simp [State.queueCount]
    · refine ⟨{ j with pass := min (j.pass + 1) Config.maxPass, state := .backoff }, ?_, hlog, by simp [hf, JobState.isFinal], ?_, ?_,
        Job.LineHeld.of_asserted _ _⟩
      · simp [State.job, hj']
      · simp [JobState.isRunning]
      · intro v; simp [State.queueCount]

/-- A search that stops at a position whose port takes the claim. -/
theorem State.Reaches.claimed (h : State.Reaches c t s v j) (p : Port) (n : Nat)
    (hl : A → j.LineHeld (s.record t).kind (v.lines.get t).line) : State.Leads c t A s (v.setClaim c p n) :=
  (h.channel (fun x => { x with claim := some ⟨p, n⟩ }) fun _ => rfl).leads hl

theorem probeFirst_leads (ps : List Position) (h : s.Runs c t j) :
    State.Leads c t ((s.lines.get t).line = .asserted) s (State.probeFirst c t ps s) := by
  induction ps generalizing s j with
  | nil => exact endPass_leads h
  | cons p ps ih =>
    unfold State.probeFirst
    split
    · obtain ⟨k, hk, -⟩ := h.reaches.startProbe p
      dsimp only
      split
      · exact ((ih hk.refusedAtOnce.runs).from hk.refusedAtOnce).mono (by simp)
      · exact hk.claimed _ _ fun a => .of_asserted _ _ (by simpa using a)
    · exact ih h

theorem fetchNewest_leads (xs : List Candidate) (h : s.Runs c t j) :
    State.Leads c t ((s.lines.get t).line = .asserted) s (State.fetchNewest c t xs s) := by
  induction xs generalizing s j with
  | nil => exact endPass_leads h
  | cons x xs ih =>
    unfold State.fetchNewest
    split
    · obtain ⟨k, hk, hs⟩ := h.reaches.startFetch x
      dsimp only
      split
      · by_cases hkind : (s.record t).kind = .lane
        · rw [if_pos hkind]
          have h2 := ((hk.refusedAtOnce.line (·.assert)).channel (fun y => { y with check := none }) fun _ => rfl).dropHead
          exact ((ih h2.runs).from h2).mono fun _ => by simp
        · rw [if_neg hkind]
          have h2 := (hk.refusedAtOnce.channel (fun y => { y with check := none }) fun _ => rfl).dropHead
          exact ((ih h2.runs).from h2).mono (by simp [startFetch_line s c t x hkind])
      · refine hk.claimed _ _ fun a => ⟨fun hm _ => ?_, fun _ hl => by simp [hs, JobState.holdsLane] at hl⟩
        rw [startFetch_line s c t x (by simp [hm])]
        exact a
    · exact ((ih h.reaches.dropHead.runs).from h.reaches.dropHead).mono (by simp)

theorem sweep_leads (ps : List Position) (h : s.Runs c t j) :
    State.Leads c t ((s.lines.get t).line = .asserted) s (State.sweep c t ps s) := by
  induction ps generalizing s j with
  | nil =>
    unfold State.sweep
    rw [h.job]
    exact fetchNewest_leads _ h
  | cons p ps ih =>
    unfold State.sweep
    split
    · obtain ⟨k, hk, -⟩ := h.reaches.startProbe p
      dsimp only
      split
      · exact ((ih hk.refusedAtOnce.runs).from hk.refusedAtOnce).mono (by simp)
      · exact hk.claimed _ _ fun a => .of_asserted _ _ (by simpa using a)
    · exact ih h

/-- R41, R42, R45: the search of a job whose line is asserted moves on. -/
theorem moveOn_leads (h : s.Runs c t j) : State.Leads c t ((s.lines.get t).line = .asserted) s (s.moveOn c t) := by
  unfold State.moveOn
  rw [h.job]
  dsimp only
  split
  · exact probeFirst_leads _ h
  · split
    · exact fetchNewest_leads _ h
    · exact sweep_leads _ h

/-! ### Ends of attempts -/

theorem endProbe_leads (o : AttemptOutcome) (h : s.Runs c t j) :
    State.Leads c t ((s.lines.get t).line = .asserted) s (s.endProbe c t o) := by
  have h1 := (h.reaches.channel (fun x => { x with claim := none }) fun _ => rfl).record o
  exact (moveOn_leads h1.runs).from h1

/-- R84: a fetch that ends leaves a LANE target's line asserted, and a MEMORY target's as it was. -/
theorem endFetch_leads (o : AttemptOutcome) (h : s.Runs c t j) :
    State.Leads c t ((s.record t).kind = .memory → (s.lines.get t).line = .asserted) s (s.endFetch c t o) := by
  have h1 := (h.reaches.clearAttempt.channel (fun x => { x with check := none }) fun _ => rfl).record o
  have h2 : ∃ k, State.Reaches c t s (if (s.record t).kind = .lane then
      (((s.clearAttempt c t).updChannel c fun x => { x with check := none }).recordOutcome t o).assertLine t
      else ((s.clearAttempt c t).updChannel c fun x => { x with check := none }).recordOutcome t o) k := by
    split
    · exact ⟨_, h1.line _⟩
    · exact ⟨_, h1⟩
  have a2 : ((s.record t).kind = .memory → (s.lines.get t).line = .asserted) → ((if (s.record t).kind = .lane then
      (((s.clearAttempt c t).updChannel c fun x => { x with check := none }).recordOutcome t o).assertLine t
      else ((s.clearAttempt c t).updChannel c fun x => { x with check := none }).recordOutcome t o).lines.get t).line
        = .asserted := by
    intro a
    split
    · simp
    · rename_i hk
      have hm : (s.record t).kind = .memory := by cases hx : (s.record t).kind <;> simp [hx] at hk ⊢
      exact (clearAttempt_line s c t).trans (a hm)
  unfold State.endFetch
  dsimp only
  revert h2 a2
  generalize (if (s.record t).kind = .lane then
      (((s.clearAttempt c t).updChannel c fun x => { x with check := none }).recordOutcome t o).assertLine t
      else ((s.clearAttempt c t).updChannel c fun x => { x with check := none }).recordOutcome t o) = s2
  rintro ⟨k, h2⟩ a2
  have h3 : ∃ k, State.Reaches c t s (if (s.record t).mode = .newest then s2.dropHead t else s2) k := by
    split
    · exact ⟨_, h2.dropHead⟩
    · exact ⟨_, h2⟩
  have l3 : (if (s.record t).mode = .newest then s2.dropHead t else s2).lines = s2.lines := by
    split <;> rfl
  revert h3 l3
  generalize (if (s.record t).mode = .newest then s2.dropHead t else s2) = s3
  rintro ⟨k, h3⟩ l3
  split
  · exact (h3.setState (x := .draining) rfl).leads fun a => .of_asserted _ _ (by simpa [l3] using a2 a)
  · exact ((moveOn_leads h3.runs).from h3).mono fun a => by rw [l3]; exact a2 a

/-- R75, R84: the end of an attempt. -/
theorem endAttempt_leads (o : AttemptOutcome) (h : s.Runs c t j) :
    State.Leads c t (j.LineHeld (s.record t).kind (s.lines.get t).line) s (s.endAttempt c t o) := by
  unfold State.endAttempt
  rw [h.job]
  dsimp only
  have fetch : j.state = .streaming ∨ j.state = .finishing →
      State.Leads c t (j.LineHeld (s.record t).kind (s.lines.get t).line) s (s.endFetch c t o) := fun hs =>
    (endFetch_leads o h).mono fun hl hm => hl.1 hm (running_not_final h.state).1
  split
  · rename_i hs
    exact (endProbe_leads o h).mono fun hl => hl.asserted (.inl hs)
  · exact fetch (.inl ‹_›)
  · exact fetch (.inr ‹_›)
  all_goals exact h.reaches.leads id

/-- R51, R71: a job that ends with its channel left. -/
theorem finished_leads (h : s.Runs c t j) {x : JobState} (hx : x.isFinal = true) (o : FinalOutcome)
    (hj : u.job t = some { j with state := x, final := some o, abortPending := false })
    (hc : (u.channels.get c).running = none) (hq : u.queues = s.queues) : State.Leads c t A s u := by
  refine ⟨_, hj, h.log, by simp [hx], ?_, fun v => ?_, fun _ => .of_final hx _ _⟩
  · rw [hc]
    cases x <;> simp [JobState.isFinal] at hx <;> rfl
  · have : x ≠ .queued := by rintro rfl; simp [JobState.isFinal] at hx
    simp [State.queueCount, hq, this]

theorem abortJob_leads (h : s.Runs c t j) : State.Leads c t A s (s.abortJob c t) := by
  refine finished_leads h (x := .aborted) rfl .aborted ?_ ?_ rfl
  · exact updJob_job (s := s.leaveChannel c) h.job _
  · simp [State.abortJob, State.finishJob]

theorem drained_leads (h : s.Runs c t j) (hs : j.state = .draining) :
    State.Leads c t (j.LineHeld (s.record t).kind (s.lines.get t).line) s (s.drained c t) := by
  unfold State.drained
  split
  · exact h.reaches.leads id
  · rw [h.job]
    dsimp only
    split
    · exact abortJob_leads h
    · exact (moveOn_leads h).mono fun hl => hl.asserted (.inr hs)

/-! ### Delivery -/

theorem raiseFloor_parts (s : State) (t : Target) (x : StreamParams) :
    ∃ y, s.raiseFloor t x = { s with store := y } := by
  unfold State.raiseFloor
  dsimp only
  split <;> exact ⟨_, rfl⟩

@[simp] theorem raiseFloor_jobs (s : State) (t : Target) (x : StreamParams) : (s.raiseFloor t x).jobs = s.jobs := by
  obtain ⟨y, h⟩ := raiseFloor_parts s t x
  rw [h]

@[simp] theorem raiseFloor_channels (s : State) (t : Target) (x : StreamParams) : (s.raiseFloor t x).channels = s.channels := by
  obtain ⟨y, h⟩ := raiseFloor_parts s t x
  rw [h]

@[simp] theorem raiseFloor_queues (s : State) (t : Target) (x : StreamParams) : (s.raiseFloor t x).queues = s.queues := by
  obtain ⟨y, h⟩ := raiseFloor_parts s t x
  rw [h]

theorem deliver_leads (h : s.Runs c t j) (hs : A → j.LineHeld (s.record t).kind (s.lines.get t).line) :
    State.Leads c t A s (s.deliver c t) := by
  unfold State.deliver
  rw [h.job]
  have hj' : (s.jobs.get t).job = some j := h.job
  split
  · rename_i j' x _ _
    rename_i e _
    cases e
    have key : ∀ v : State, v.jobs = s.jobs.set t { s.jobs.get t with
          condition := .loaded, descriptor := descriptorOf j x
          job := some { j with state := .delivered, final := some .delivered, abortPending := false } } →
        (v.channels.get c).running = none → v.queues = s.queues → State.Leads c t A s v := fun v h1 h2 h3 =>
      finished_leads h (x := .delivered) rfl .delivered (by simp [State.job, h1]) h2 h3
    dsimp only
    split <;> refine key _ ?_ ?_ ?_ <;> simp [State.finishJob, hj']
  all_goals exact h.reaches.leads hs

/-! ### Claims, completions and deliveries of blocks -/

/-- The line part of a job's invariant, as the small steps on a running job need it. -/
abbrev State.LineFits (s : State) (t : Target) (j : Job) : Prop := j.LineHeld (s.record t).kind (s.lines.get t).line

theorem placeClaim_leads (h : s.Runs c t j) : State.Leads c t (s.LineFits t j) s (s.placeClaim c t) := by
  unfold State.placeClaim
  rw [h.job]
  dsimp only
  split
  · exact h.reaches.leads id
  · split
    · split
      · have h1 := h.reaches.channel (fun y => { y with issue := y.issue + 1 }) fun _ => rfl
        exact (endAttempt_leads _ h1.runs).from h1
      · exact h.reaches.claimed _ _ id
    · exact h.reaches.leads id

theorem take_line (x : TargetPort) (k : Nat) (payload : List Byte) (trdy : Bool) (r : TargetRecord) :
    (x.take k payload trdy r).line = x.line := by
  unfold TargetPort.take
  dsimp only
  split <;> rfl

/-- R79: the hand-off of a block leaves the job, and the line's state. -/
theorem State.Reaches.handOff (h : State.Reaches c t s v j) :
    State.Reaches c t s (v.handOff c t) j ∧ ((v.handOff c t).lines.get t).line = (v.lines.get t).line := by
  unfold State.handOff
  dsimp only
  split
  · split
    · split
      · exact ⟨h, rfl⟩
      · exact ⟨(h.channel _ (by exact fun _ => rfl)).line _, by simp [take_line]⟩
    · exact ⟨h, rfl⟩
  all_goals exact ⟨h, rfl⟩

theorem State.Reaches.putSlot (h : State.Reaches c t s v j) (n : Nat) (x : Slot) : State.Reaches c t s (v.putSlot c n x) j :=
  h.channel (fun y => { y with slots := setSlot n x y.slots }) fun _ => rfl

theorem acceptFirst_leads (data : List Byte) (h : s.Runs c t j) :
    State.Leads c t (s.LineFits t j) s (s.acceptFirst c t data) := by
  have h2 := ((h.reaches.channel (fun y => { y with params := some (streamParams data), check := some crc32Init })
    fun _ => rfl).job (fun j => { j with phase := some .fetch, delivered := 0 }) h.state h.final h.log).setState
      (x := .streaming) rfl
  unfold State.acceptFirst
  dsimp only
  revert h2
  generalize hs2 : State.setJobState _ t .streaming = s2
  intro h2
  have h3 : State.Reaches c t s (if (s.record t).kind = .lane then s2.releaseLine t else s2)
      { j with phase := some .fetch, delivered := 0, state := .streaming } := by
    split
    · exact h2.line _
    · exact h2
  have l3 : (s.record t).kind = .memory →
      (if (s.record t).kind = .lane then s2.releaseLine t else s2).lines = s.lines := by
    intro hm
    rw [if_neg (by simp [hm]), ← hs2]
    simp
  revert h3 l3
  generalize (if (s.record t).kind = .lane then s2.releaseLine t else s2) = s3
  intro h3 l3
  have held : s.LineFits t j → (s.record t).kind = .memory → (s3.lines.get t).line = .asserted := fun a hm => by
    rw [l3 hm]; exact a.1 hm (running_not_final h.state).1
  split
  · refine ((endFetch_leads _ (h3.putSlot 0 .free).runs).from (h3.putSlot 0 .free)).mono fun a hm => ?_
    exact held a (by rw [← h3.kind]; exact hm)
  · obtain ⟨h4, l4⟩ := (h3.putSlot 0 (.held 0 data)).handOff
    refine ((placeClaim_leads h4.runs).from h4).mono fun a => ⟨fun hm _ => ?_, fun _ hl => by simp [JobState.holdsLane] at hl⟩
    rw [l4]
    exact held a (by rw [← h4.kind]; exact hm)

theorem acceptNewest_leads (data : List Byte) (h : s.Runs c t j) (hs : j.state = .probing) :
    State.Leads c t (s.LineFits t j) s (s.acceptNewest c t j data) := by
  have h1 := h.reaches.putSlot 0 .free
  unfold State.acceptNewest
  dsimp only
  split
  · rename_i p _
    have h2 := h1.job (fun j => { j with candidates := insertCandidate (candidateOf p data) j.candidates }) h.state h.final h.log
    exact ((moveOn_leads h2.runs).from h2).mono fun a => a.asserted (.inl hs)
  · exact ((moveOn_leads h1.runs).from h1).mono fun a => a.asserted (.inl hs)

theorem probeData_leads (data : List Byte) (h : s.Runs c t j) (hs : j.state = .probing) :
    State.Leads c t (s.LineFits t j) s (s.probeData c t j data) := by
  unfold State.probeData
  split
  · have h1 := h.reaches.putSlot 0 .free
    exact ((endProbe_leads _ h1.runs).from h1).mono fun a => a.asserted (.inl hs)
  · split
    · exact acceptFirst_leads data h
    · exact acceptNewest_leads data h hs

theorem fetchData_leads (n : Nat) (data : List Byte) (h : s.Runs c t j) :
    State.Leads c t (s.LineFits t j) s (s.fetchData c t n data) := by
  have ends : ∀ o, State.Leads c t (s.LineFits t j) s ((s.putSlot c n .free).endFetch c t o) := fun o =>
    ((endFetch_leads o (h.reaches.putSlot n .free).runs).from (h.reaches.putSlot n .free)).mono fun a hm =>
      a.1 hm (running_not_final h.state).1
  unfold State.fetchData
  split
  · exact h.reaches.leads id
  · split
    · exact ends _
    · split
      · exact ends _
      · obtain ⟨h2, l2⟩ := (h.reaches.putSlot n (.held n data)).handOff
        exact h2.leads fun a => by rw [l2]; exact a

theorem channelData_leads (n : Nat) (data : List Byte) (h : s.Runs c t j) :
    State.Leads c t (s.LineFits t j) s (s.channelData c n data) := by
  unfold State.channelData
  rw [h.channel]
  dsimp only
  rw [h.job]
  dsimp only
  split
  · exact probeData_leads data h ‹_›
  · exact fetchData_leads n data h
  · have h1 := h.reaches.putSlot n .free
    exact (drained_leads h1.runs ‹_›).from h1
  all_goals exact h.reaches.leads id

theorem endStream_leads (h : s.Runs c t j) : State.Leads c t (s.LineFits t j) s (s.endStream c t) := by
  unfold State.endStream
  split
  · split
    · split
      · exact deliver_leads h id
      · rename_i hk
        have h1 := h.reaches.setState (x := .finishing) rfl
        have fits : ∀ line, Job.LineHeld { j with state := .finishing } (s.record t).kind line := fun _ =>
          ⟨fun hm => absurd hm hk, fun _ hl => by simp [JobState.holdsLane] at hl⟩
        dsimp only
        split
        · refine (deliver_leads h1.runs fun _ => ?_).from h1
          rw [h1.kind]
          exact fits _
        · exact (h1.line _).leads fun _ => fits _
    · exact (endFetch_leads _ h).mono fun a hm => a.1 hm (running_not_final h.state).1
  all_goals exact h.reaches.leads id

theorem blockDelivered_leads (h : s.Runs c t j) : State.Leads c t (s.LineFits t j) s (s.blockDelivered c t) := by
  unfold State.blockDelivered
  dsimp only
  split
  · rename_i j' p data hj _ _
    have h1 := (h.reaches.channel (fun y =>
        { y with
          check := y.check.map fun reg => crc32Over reg (payloadOf p.length j'.delivered data)
          slots := setSlot j'.delivered .free y.slots }) fun _ => rfl).job (fun j => { j with delivered := j'.delivered + 1 })
      h.state h.final h.log
    split
    · exact (endStream_leads h1.runs).from h1
    · obtain ⟨h2, l2⟩ := h1.handOff
      exact ((placeClaim_leads h2.runs).from h2).mono fun a => by
        unfold State.LineFits
        rw [l2, h2.kind]
        exact a
  all_goals exact h.reaches.leads id

/-! ### ABORT -/

theorem abortRunning_leads (h : s.Runs c t j) : State.Leads c t A s (s.abortRunning c t) := by
  have h1 := (h.reaches.line (·.assert)).clearAttempt
  have l1 : (((s.assertLine t).clearAttempt c t).lines.get t).line = .asserted := by
    rw [clearAttempt_line]; simp
  unfold State.abortRunning
  dsimp only
  split
  · have h2 := ((h1.job (fun j => { j with abortPending := true }) h.state h.final h.log).setState (x := .draining) rfl).raise (.job t)
    refine h2.leads fun _ => .of_asserted _ _ ?_
    rw [State.raise_lines, setJobState_lines, State.updJob_lines]
    exact l1
  · exact (abortJob_leads h1.runs).from h1

end Sys2Proof.Machine
end

section
/-! SUPPORT. The invariants of the Job Table's places (O59) and of the held lines (O60): each small step keeps them. -/

namespace Sys2Proof.Machine

/-- The other channel. -/
def other : Chan → Chan
  | .a => .b
  | .b => .a

theorem other_ne (c : Chan) : other c ≠ c := by cases c <;> decide

variable {K A : Prop} {c : Chan} {t : Target} {s u w : State} {j : Job}

/-- The jobs stand where their states say, and the lines are held as R127 wants where they were before. -/
def State.Placed (s u : State) : Prop := u.JobsOk ∧ (s.LinesOk → u.LinesOk)

theorem State.Placed.trans (h : State.Placed s u) (k : State.Placed u w) : State.Placed s w := ⟨k.1, fun hl => k.2 (h.2 hl)⟩

/-! ### Where a job is -/

theorem runCount_of_eq (h : ∀ c, (u.channels.get c).running = (s.channels.get c).running) (t : Target) :
    u.runCount t = s.runCount t := by
  simp [State.runCount, h]

/-- The number of channels that run a target's job, counted from one of them. -/
theorem runCount_eq (s : State) (c : Chan) (t : Target) : s.runCount t =
    (if (s.channels.get c).running = some t then 1 else 0) + (if (s.channels.get (other c)).running = some t then 1 else 0) := by
  cases c
  · rfl
  · exact Nat.add_comm _ _

/-- R11: the job that a channel runs is in a running state, has no final outcome and keeps at most 16 log entries. -/
theorem runs_of_running (hs : s.JobsOk) (hc : (s.channels.get c).running = some t) : ∃ j, s.Runs c t j := by
  obtain ⟨hplace, hjob, -⟩ := hs
  have hp := hplace t
  rw [State.JobPlaced, runCount_eq s c t, if_pos hc] at hp
  split at hp
  · omega
  · rename_i j hj
    have hrun : j.state.isRunning = true := by
      by_contra hn
      rw [if_neg hn] at hp
      omega
    obtain ⟨hfin, hlog⟩ := hjob t j hj
    rw [(running_not_final hrun).1, Option.isSome_eq_false_iff, Option.isNone_iff_eq_none] at hfin
    exact ⟨j, hc, hj, hrun, hfin, hlog⟩

/-- R11: the job of a target that stands in a wait queue is QUEUED. -/
theorem queued_of_place (hs : s.JobsOk) (hq : s.queueCount t ≠ 0) : ∃ j, s.job t = some j ∧ j.state = .queued := by
  have hp := hs.1 t
  unfold State.JobPlaced at hp
  split at hp
  · exact absurd hp.2 hq
  · rename_i j hj
    refine ⟨j, hj, ?_⟩
    by_contra h
    exact hq (by rw [hp.2, if_neg h])

/-- R149: a part with a job is READY. -/
theorem ready_of_job (hs : s.JobsOk) (hj : s.job t = some j) : s.store.startup = .ready := by
  by_contra hn
  have := hs.2.2 hn
  simp [State.job, this, JobSlot.reset] at hj

/-- R9: a target with no non-final job is on no channel and in no queue. -/
theorem nowhere_of_not_busy (hs : s.JobsOk) (hb : s.busy t = false) : s.runCount t = 0 ∧ s.queueCount t = 0 := by
  have hp := hs.1 t
  unfold State.JobPlaced at hp
  unfold State.busy at hb
  cases hj : s.job t with
  | none => rw [hj] at hp; exact hp
  | some j =>
    rw [hj] at hp hb
    cases hx : j.state <;> simp [hx, JobState.isFinal, JobState.isRunning] at hp hb <;> exact hp

/-! ### Steps that touch no job, and steps that touch one -/

/-- Steps that leave the jobs, the queues and the channels' running jobs. -/
theorem placed_of_same (hs : s.JobsOk) (hj : u.jobs = s.jobs) (hq : u.queues = s.queues)
    (hc : ∀ c, (u.channels.get c).running = (s.channels.get c).running)
    (hr : s.store.startup = .ready → u.store.startup = .ready)
    (hl : ∀ t j, s.job t = some j → j.state.isFinal = false → (u.record t).kind = (s.record t).kind
      ∧ ((s.lines.get t).line = .asserted → (u.lines.get t).line = .asserted)) : State.Placed s u := by
  obtain ⟨hplace, hjob, hready⟩ := hs
  have job : ∀ t, u.job t = s.job t := fun t => by simp [State.job, hj]
  refine ⟨⟨fun t => ?_, fun t j h => hjob t j (job t ▸ h), fun h => hj ▸ hready (mt hr h)⟩, fun hlines t j h => ?_⟩
  · have := hplace t
    unfold State.JobPlaced at this ⊢
    rwa [job, runCount_of_eq hc, State.queueCount, hq]
  · rw [job] at h
    by_cases hf : j.state.isFinal = true
    · exact Job.LineHeld.of_final hf _ _
    · rw [Bool.not_eq_true] at hf
      obtain ⟨hk, hla⟩ := hl t j h hf
      obtain ⟨h1, h2⟩ := hlines t j h
      rw [hk]
      exact ⟨fun hm _ => hla (h1 hm hf), fun hm hx => hla (h2 hm hx)⟩

/-- Steps that touch one target's job, its line and its places alone. -/
theorem placed_of_target (hs : s.JobsOk) (t : Target) (hr : u.store.startup = .ready)
    (hkind : ∀ v, (u.record v).kind = (s.record v).kind)
    (others : ∀ v, v ≠ t → u.job v = s.job v ∧ u.lines.get v = s.lines.get v
      ∧ u.runCount v = s.runCount v ∧ u.queueCount v = s.queueCount v)
    (hplace : u.JobPlaced t)
    (hjob : ∀ j, u.job t = some j → j.final.isSome = j.state.isFinal ∧ j.log.length ≤ 16)
    (hline : s.LinesOk → ∀ j, u.job t = some j → j.LineHeld (s.record t).kind (u.lines.get t).line) : State.Placed s u := by
  obtain ⟨hplaces, hjobs, -⟩ := hs
  refine ⟨⟨fun v => ?_, fun v j h => ?_, fun h => absurd hr h⟩, fun hlines v j h => ?_⟩
  · by_cases hv : v = t
    · exact hv ▸ hplace
    · obtain ⟨h1, -, h3, h4⟩ := others v hv
      have := hplaces v
      unfold State.JobPlaced at this ⊢
      rwa [h1, h3, h4]
  · by_cases hv : v = t
    · exact hjob j (hv ▸ h)
    · exact hjobs v j ((others v hv).1 ▸ h)
  · rw [hkind]
    by_cases hv : v = t
    · subst hv
      exact hline hlines j h
    · obtain ⟨h1, h2, -⟩ := others v hv
      rw [h2]
      exact hlines v j (h1 ▸ h)

/-- Work on a running job: where it stands in the end, and that the other targets are left alone. -/
theorem placed_of_leads (hs : s.JobsOk) (hr : s.Runs c t j) (hf : SearchFrame s u) (ht : State.Tries c t s u)
    (hl : State.Leads c t (s.LineFits t j) s u) : State.Placed s u := by
  obtain ⟨k, hk, hlog, hfin, hc, hq, hline⟩ := hl
  obtain ⟨hothers, hchan⟩ := ht.others
  have hother : u.channels.get (other c) = s.channels.get (other c) := hchan _ (other_ne c)
  have hp := hs.1 t
  rw [State.JobPlaced, hr.job, runCount_eq s c t, if_pos hr.channel] at hp
  simp only [hr.state, if_true, (running_not_final hr.state).2, if_false] at hp
  obtain ⟨hp1, hp2⟩ := hp
  refine placed_of_target hs t (hf.startup.trans (ready_of_job hs hr.job)) hf.kind (fun v hv => ?_) ?_ (fun i hi => ?_)
    (fun hlines i hi => ?_)
  · obtain ⟨h1, h2⟩ := hothers v hv
    refine ⟨by simp [State.job, h1], h2, ?_, by rw [hq v]; simp [hv]⟩
    rw [runCount_eq u c, runCount_eq s c, hother, hc, hr.channel]
    split <;> simp [Ne.symm hv]
  · rw [State.JobPlaced, hk]
    refine ⟨?_, by rw [hq t, hp2]; simp⟩
    rw [runCount_eq u c, hc, hother]
    have hnot : ¬ (s.channels.get (other c)).running = some t := fun h => by rw [if_pos h] at hp1; omega
    rw [if_neg hnot]
    cases k.state.isRunning <;> simp
  · cases hk.symm.trans hi
    exact ⟨hfin, hlog⟩
  · cases hk.symm.trans hi
    exact hline (hlines t j hr.job)

/-! ### The small steps -/

theorem placed_refl (hs : s.JobsOk) : State.Placed s s := ⟨hs, id⟩

/-- A change of one channel that leaves its running job. -/
theorem updChannel_placed (hs : s.JobsOk) (c : Chan) (f : Channel → Channel) (hf : ∀ x, (f x).running = x.running) :
    State.Placed s (s.updChannel c f) :=
  placed_of_same hs rfl rfl (fun d => by
    rw [State.updChannel_channels, PerChan.get_set]
    split
    · rename_i h; rw [hf, h]
    · rfl) id fun _ _ _ _ => ⟨rfl, id⟩

theorem updLine_placed (hs : s.JobsOk) (t : Target) (f : TargetPort → TargetPort)
    (hf : s.busy t = false ∨ ∀ x, x.line = .asserted → (f x).line = .asserted) : State.Placed s (s.updLine t f) :=
  placed_of_same hs rfl rfl (fun _ => rfl) id fun v j hj hn => ⟨rfl, fun hl => by
    rw [State.updLine_lines, PerTarget.get_set]
    split
    · rename_i h
      subst h
      rcases hf with hb | hf
      · simp [State.busy, hj, hn] at hb
      · exact hf _ hl
    · exact hl⟩

/-- A change of a target's slot that leaves its job, once the part is READY. -/
theorem updSlot_placed (hs : s.JobsOk) (t : Target) (f : JobSlot → JobSlot) (hr : s.store.startup = .ready)
    (hf : ∀ x, (f x).job = x.job) : State.Placed s (s.updSlot t f) := by
  have job : ∀ v, (s.updSlot t f).job v = s.job v := fun v => by
    simp only [State.job, State.updSlot_jobs, PerTarget.get_set]
    split
    · rename_i h; rw [hf, h]
    · rfl
  refine placed_of_target hs t hr (fun _ => rfl) (fun v hv => ⟨job v, rfl, rfl, rfl⟩) ?_ (fun k hk => hs.2.1 t k (job t ▸ hk))
    fun hl k hk => hl t k (job t ▸ hk)
  have := hs.1 t
  unfold State.JobPlaced at this ⊢
  rwa [job]

theorem raise_placed (hs : s.JobsOk) (r : ReportId) : State.Placed s (s.raise r) :=
  placed_of_same hs rfl rfl (fun _ => rfl) id fun _ _ _ _ => ⟨rfl, id⟩

theorem setCondition_placed (hs : s.JobsOk) (t : Target) (x : Condition) (hr : s.store.startup = .ready) :
    State.Placed s (s.setCondition t x) := by
  unfold State.setCondition
  split
  · exact placed_refl hs
  · have h := updSlot_placed hs t (fun y => { y with condition := x }) hr fun _ => rfl
    exact h.trans (raise_placed h.1 _)

/-- R9: a job is created on a target with no non-final job; it is QUEUED, or FAILED with NO SOURCES. -/
theorem createJob_placed (hs : s.JobsOk) (t : Target) (o : Origin) (relaxed : Bool) (only : Option Position)
    (hr : s.store.startup = .ready) (hb : s.busy t = false) : State.Placed s (s.createJob t o relaxed only) := by
  obtain ⟨h0, q0⟩ := nowhere_of_not_busy hs hb
  have hf := createJob_frame s t o relaxed only
  have hk := (createJob_tries (c := .a) (s := s) (t := t) o relaxed only).others.1
  have hline : ((s.createJob t o relaxed only).lines.get t).line = .asserted := by
    unfold State.createJob
    dsimp only
    split <;> simp [State.finishJob]
  have hc : (s.createJob t o relaxed only).channels = s.channels := by
    unfold State.createJob
    dsimp only
    split <;> rfl
  have run : ∀ v, (s.createJob t o relaxed only).runCount v = s.runCount v := runCount_of_eq fun d => by rw [hc]
  obtain ⟨k, hk1, hk2, hk3, hk4, hq⟩ : ∃ k, (s.createJob t o relaxed only).job t = some k ∧ k.log = []
      ∧ k.final.isSome = k.state.isFinal ∧ k.state.isRunning = false
      ∧ ∀ v, (s.createJob t o relaxed only).queueCount v = s.queueCount v + if v = t ∧ k.state = .queued then 1 else 0 := by
    unfold State.createJob
    dsimp only
    split
    · refine ⟨_, updJob_job (j := newJob o relaxed only _ _ _) (by simp [State.job]; rfl) _, rfl, rfl, rfl, fun v => ?_⟩
      simp [State.finishJob, State.queueCount]
    · refine ⟨newJob o relaxed only _ _ _, by simp [State.job]; rfl, rfl, rfl, rfl, fun v => ?_⟩
      show (State.enterQueue _ t).queueCount v = _
      rw [queueCount_enterQueue]
      simp [State.queueCount, newJob]
  refine placed_of_target hs t (hf.startup.trans hr) hf.kind (fun v hv => ?_) ?_ (fun i hi => ?_)
    fun _ _ _ => .of_asserted _ _ hline
  · exact ⟨by simp [State.job, (hk v hv).1], (hk v hv).2, run v, by rw [hq v]; simp [hv]⟩
  · rw [State.JobPlaced, hk1]
    exact ⟨by rw [run t, h0, hk4]; rfl, by rw [hq t, q0]; simp⟩
  · cases hk1.symm.trans hi
    exact ⟨hk3, by rw [hk2]; exact Nat.zero_le 16⟩

/-- R17: a job leaves BACKOFF for its channel's wait queue. -/
theorem backoffEnds_placed (hs : s.JobsOk) (t : Target) : State.Placed s (s.backoffEnds t) := by
  have others := (backoffEnds_tries (c := .a) (s := s) (t := t)).others.1
  have hf := backoffEnds_frame s t
  unfold State.backoffEnds at others hf ⊢
  split
  · exact placed_refl hs
  · rename_i j hj
    rw [hj] at others hf
    dsimp only at others hf
    split
    · rename_i hstate
      rw [if_pos hstate] at others hf
      have hp := hs.1 t
      obtain ⟨hfin, hlog⟩ := hs.2.1 t j hj
      rw [State.JobPlaced, hj] at hp
      simp only [hstate.1, JobState.isFinal, JobState.isRunning] at hp hfin
      obtain ⟨hp1, hp2⟩ := hp
      have hj1 : (s.updSlot t fun x => { x with backoff := none }).job t = some j := by
        simpa [State.job] using hj
      have hk : (((s.updSlot t fun x => { x with backoff := none }).setJobState t .queued).enterQueue t).job t
          = some { j with state := .queued } := setJobState_job hj1 _
      have hq : ∀ v, (((s.updSlot t fun x => { x with backoff := none }).setJobState t .queued).enterQueue t).queueCount v
          = s.queueCount v + if v = t then 1 else 0 := fun v => by
        rw [queueCount_enterQueue, State.queueCount, setJobState_queues]; rfl
      have run : ∀ v, (((s.updSlot t fun x => { x with backoff := none }).setJobState t .queued).enterQueue t).runCount v
          = s.runCount v := runCount_of_eq fun d => by simp
      refine placed_of_target hs t (hf.startup.trans (ready_of_job hs hj)) hf.kind (fun v hv => ?_) ?_ (fun i hi => ?_)
        fun hl i hi => ?_
      · exact ⟨by simp only [State.job, (others v hv).1], (others v hv).2, run v, by rw [hq v]; simp [hv]⟩
      · rw [State.JobPlaced, hk]
        exact ⟨(run t).trans hp1, by rw [hq t, hp2]; simp⟩
      · cases hk.symm.trans hi
        exact ⟨hfin, hlog⟩
      · cases hk.symm.trans hi
        obtain ⟨l1, l2⟩ := hl t j hj
        rw [State.enterQueue_lines, setJobState_lines]
        exact ⟨fun hm _ => l1 hm (by rw [hstate.1]; rfl), fun hm _ => l2 hm (by rw [hstate.1]; rfl)⟩
    · exact placed_refl hs

/-- R22: an abort of a job that waits takes it out of the queues. -/
theorem abortWaiting_placed (hs : s.JobsOk) (hj : s.job t = some j) (hstate : j.state = .queued ∨ j.state = .backoff) :
    State.Placed s (s.abortWaiting t) := by
  have hf := abortWaiting_frame s t
  have hp := hs.1 t
  obtain ⟨-, hlog⟩ := hs.2.1 t j hj
  rw [State.JobPlaced, hj] at hp
  have hrun : s.runCount t = 0 := by rcases hstate with h | h <;> simpa [h, JobState.isRunning] using hp.1
  have hk : (s.abortWaiting t).job t = some { j with state := .aborted, final := some .aborted, abortPending := false } :=
    updJob_job (s := (s.leaveQueues t).updSlot t fun x => { x with backoff := none }) (by simpa [State.job, State.leaveQueues] using hj) _
  have hq : ∀ v, (s.abortWaiting t).queueCount v = if v = t then 0 else s.queueCount v := fun v => by
    show List.count v ((s.queues.get .a).filter _) + List.count v ((s.queues.get .b).filter _) = _
    split
    · rename_i h
      subst h
      simp [List.count_eq_zero]
    · rename_i h
      rw [List.count_filter (by simpa using h), List.count_filter (by simpa using h)]
      rfl
  refine placed_of_target hs t (hf.startup.trans (ready_of_job hs hj)) hf.kind (fun v hv => ?_) ?_ (fun i hi => ?_)
    fun hl i hi => ?_
  · exact ⟨by simp [State.job, State.abortWaiting, State.finishJob, State.leaveQueues, PerTarget.get_set_of_ne _ _ hv], rfl, rfl,
      by rw [hq v, if_neg hv]⟩
  · rw [State.JobPlaced, hk]
    exact ⟨hrun, by rw [hq t, if_pos rfl]; rfl⟩
  · cases hk.symm.trans hi
    exact ⟨rfl, hlog⟩
  · cases hk.symm.trans hi
    exact .of_final rfl _ _

/-- R24: abort pending changes no place. -/
theorem abortDraining_placed (hs : s.JobsOk) (t : Target) : State.Placed s (s.abortDraining t) := by
  cases hj : s.job t with
  | none =>
    have e : s.abortDraining t = s := by
      cases hx : s.jobs.get t with
      | mk cond desc job backoff =>
        obtain rfl : job = none := by simpa [State.job, hx] using hj
        unfold State.abortDraining State.updJob State.updSlot
        rw [hx]
        show { s with jobs := s.jobs.set t ⟨cond, desc, none, backoff⟩ } = s
        rw [← hx, PerTarget.set_get_self]
    rw [e]
    exact placed_refl hs
  | some j =>
    have hk : (s.abortDraining t).job t = some { j with abortPending := true } := updJob_job hj _
    refine placed_of_target hs t (show s.store.startup = .ready from ready_of_job hs hj) (fun _ => rfl) (fun v hv => ⟨?_, rfl, rfl, rfl⟩) ?_ (fun i hi => ?_)
      fun hl i hi => ?_
    · simp [State.job, State.abortDraining, PerTarget.get_set_of_ne _ _ hv]
    · have := hs.1 t
      rw [State.JobPlaced, hj] at this
      rw [State.JobPlaced, hk]
      exact this
    · cases hk.symm.trans hi
      exact hs.2.1 t j hj
    · cases hk.symm.trans hi
      exact hl t j hj

/-- R70: the head of a wait queue becomes the channel's running job, and its search begins. -/
theorem takeHead_placed (hs : s.JobsOk) (c : Chan) : State.Placed s (s.takeHead c) := by
  rcases takeHead_eq s c with e | ⟨t, rest, hq, hc, e⟩ <;> rw [e]
  · exact placed_refl hs
  obtain ⟨j, hj, hqueued⟩ := queued_of_place hs (t := t) (by cases c <;> simp [State.queueCount, hq])
  have hp := hs.1 t
  obtain ⟨hfin, hlog⟩ := hs.2.1 t j hj
  rw [State.JobPlaced, hj] at hp
  dsimp only at hp
  rw [hqueued] at hfin hp
  have hnone : j.final = none := by simpa [JobState.isFinal] using hfin
  have hrun : s.runCount t = 0 := hp.1
  have hone : s.queueCount t = 1 := hp.2
  have hj1 : ((s.updQueue c fun _ => rest).updChannel c fun x =>
      { x with running := some t, issue := 0, params := none, check := none }).job t = some j := hj
  have hk := setJobState_job (updJob_job hj1 fun j => { j with candidates := [] }) .probing
  have htries : State.Tries c t (s.updQueue c fun _ => rest) _ := ((updChannel_tries (s := s.updQueue c fun _ => rest) fun x =>
      { x with running := some t, issue := 0, params := none, check := none }).trans
    (updJob_tries fun j => { j with candidates := [] })).trans (setJobState_tries .probing)
  have hframe : SearchFrame s _ := (((updQueue_frame s c fun _ => rest).trans (updChannel_frame _ c fun x =>
      { x with running := some t, issue := 0, params := none, check := none })).trans
    (updJob_frame _ t fun j => { j with candidates := [] })).trans (setJobState_frame _ t .probing)
  unfold State.startPass
  dsimp only
  rw [hk]
  dsimp only
  have lead : ∀ s2 : State, s2.job t = some { j with candidates := [], state := .probing } →
      SearchFrame s s2 → State.Tries c t (s.updQueue c fun _ => rest) s2 →
      (s2.channels.get c).running = some t → s2.queues = s.queues.set c rest → s2.lines = s.lines →
      State.Placed s s2 ∧ s2.Runs c t { j with candidates := [], state := .probing } := by
    intro s2 h1 h2 h3 h4 h5 h6
    obtain ⟨hothers, hchan⟩ := h3.others
    have hother : s2.channels.get (other c) = s.channels.get (other c) := hchan _ (other_ne c)
    have hcnt : ∀ v, s2.queueCount v + (if v = t then 1 else 0) = s.queueCount v := fun v => by
      cases c
      all_goals
        simp only [State.queueCount, h5, hq, PerChan.get_set_same, PerChan.get_set_of_ne _ _ (show Chan.a ≠ Chan.b by decide),
          PerChan.get_set_of_ne _ _ (show Chan.b ≠ Chan.a by decide), List.count_cons, beq_iff_eq, eq_comm (a := t)]
        omega
    refine ⟨placed_of_target hs t (h2.startup.trans (ready_of_job hs hj)) h2.kind (fun v hv => ?_) ?_ (fun i hi => ?_)
      fun hl i hi => ?_, ⟨h4, h1, rfl, hnone, hlog⟩⟩
    · obtain ⟨e1, e2⟩ := hothers v hv
      refine ⟨by simp only [State.job, e1]; rfl, e2, ?_, by simpa [hv] using hcnt v⟩
      rw [runCount_eq s2 c, runCount_eq s c, hother, h4, hc]
      simp [Ne.symm hv]
    · rw [State.JobPlaced, h1]
      have := hcnt t
      rw [if_pos rfl] at this
      refine ⟨?_, by dsimp only; simp; omega⟩
      rw [runCount_eq s c, hc] at hrun
      rw [runCount_eq s2 c, hother, h4]
      simp [JobState.isRunning] at hrun ⊢
      exact hrun
    · cases h1.symm.trans hi
      exact ⟨by rw [hnone]; rfl, hlog⟩
    · cases h1.symm.trans hi
      obtain ⟨l1, l2⟩ := hl t j hj
      rw [h6]
      exact ⟨fun hm _ => l1 hm (by rw [hqueued]; rfl), fun hm _ => l2 hm (by rw [hqueued]; rfl)⟩
  obtain ⟨hplaced, hruns⟩ := lead _ hk hframe htries (by simp) (by simp) (by simp)
  split
  · exact hplaced.trans (placed_of_leads hplaced.1 hruns (probeFirst_frame ..) (probeFirst_tries _)
      ((probeFirst_leads _ hruns).mono fun hl => hl.asserted (.inl rfl)))
  · exact hplaced.trans (placed_of_leads hplaced.1 hruns (sweep_frame ..) (sweep_tries _)
      ((sweep_leads _ hruns).mono fun hl => hl.asserted (.inl rfl)))

/-- R134, R135, R136: a fault taken. -/
theorem takeFault_placed (hs : s.JobsOk) (t : Target) : State.Placed s (s.takeFault t) := by
  unfold State.takeFault
  split
  · split
    · rename_i c j hc hj
      split
      · obtain ⟨i, hr⟩ := runs_of_running hs (channelOf_running hc)
        exact placed_of_leads hs hr (endFetch_frame ..) (endFetch_tries _)
          ((endFetch_leads _ hr).mono fun hl hm => hl.1 hm (running_not_final hr.state).1)
      · exact placed_refl hs
    all_goals exact placed_refl hs
  · rename_i hb
    split
    · rename_i hloaded
      have hr : s.store.startup = .ready := by
        by_contra hn
        rw [hs.2.2 hn] at hloaded
        simp [JobSlot.reset] at hloaded
      have h1 := setCondition_placed hs t .faulted hr
      dsimp only
      split
      · refine h1.trans (createJob_placed h1.1 t _ _ _ ((setCondition_frame ..).startup.trans hr) ?_)
        have : (s.setCondition t .faulted).job t = s.job t := by
          unfold State.setCondition
          split
          · rfl
          · simp [State.job]
        simpa [State.busy, this] using hb
      · exact h1
    · exact placed_refl hs

/-- R138, R139: TARGET LINE acts on a target with no non-final job. -/
theorem lineAct_placed (hs : s.JobsOk) (t : Target) (a : LineAction) (hr : s.store.startup = .ready) (hb : s.busy t = false) :
    State.Placed s (s.lineAct t a) := by
  cases a
  · have h1 := updLine_placed hs t (·.assert) (.inl hb)
    exact h1.trans (setCondition_placed h1.1 t .none hr)
  · exact updLine_placed hs t _ (.inl hb)
  · exact placed_refl hs

/-- Steps that leave the jobs, their places, the lines and the Setup Store. -/
theorem placed_of_frame (hs : s.JobsOk) (hj : u.jobs = s.jobs) (hq : u.queues = s.queues) (hc : u.channels = s.channels)
    (hl : u.lines = s.lines) (hst : u.store = s.store) : State.Placed s u :=
  placed_of_same hs hj hq (fun _ => by rw [hc]) (fun h => by rw [hst]; exact h) fun _ _ _ _ =>
    ⟨by simp only [State.record, hst], by rw [hl]; exact id⟩

theorem setPortState_placed (hs : s.JobsOk) (p : Port) (x : PortState) : State.Placed s (s.setPortState p x) := by
  unfold State.setPortState
  split
  · exact placed_refl hs
  · exact placed_of_frame hs rfl rfl rfl rfl rfl

/-- R7, R11, R48, R127: each small step leaves every job where its state says, and the lines held. -/
theorem does_placed (hs : s.JobsOk) (h : State.Does True s u) : State.Placed s u := by
  have edit : ∀ f : Setup → Setup, (∀ t, s.busy t = true → ((f s.store.setup).targets.get t).kind = (s.record t).kind) →
      State.Placed s (s.updStore fun x => x.edit (f x.setup)) := fun f hf =>
    placed_of_same hs rfl rfl (fun _ => rfl) (fun h => by
      rw [State.updStore_store, SetupStore.edit]
      split <;> exact h) fun t j hj hn => ⟨by
        rw [State.record, State.updStore_store, SetupStore.edit]
        split
        · rfl
        · exact hf t (by simp [State.busy, hj, hn]), id⟩
  cases h with
  | raise r => exact raise_placed hs r
  | line t f hf => exact updLine_placed hs t f (.inr hf)
  | channel c f hf => exact updChannel_placed hs c f hf
  | takeHead c => exact takeHead_placed hs c
  | backoffEnds t => exact backoffEnds_placed hs t
  | endAttempt c t o hc =>
    obtain ⟨j, hr⟩ := runs_of_running hs hc
    exact placed_of_leads hs hr (endAttempt_frame ..) (endAttempt_tries o) (endAttempt_leads o hr)
  | drained c t j hc hj hstate =>
    obtain ⟨i, hr⟩ := runs_of_running hs hc
    cases hj.symm.trans hr.job
    exact placed_of_leads hs hr (drained_frame ..) drained_tries (drained_leads hr hstate)
  | placeClaim c t hc =>
    obtain ⟨j, hr⟩ := runs_of_running hs hc
    exact placed_of_leads hs hr (placeClaim_frame ..) placeClaim_tries (placeClaim_leads hr)
  | channelData c k data =>
    rcases channelData_tries (s := s) (c := c) k data with e | ⟨t, hc, ht⟩
    · rw [e]; exact placed_refl hs
    · obtain ⟨j, hr⟩ := runs_of_running hs hc
      exact placed_of_leads hs hr (channelData_frame ..) ht (channelData_leads k data hr)
  | blockDelivered c t hc =>
    obtain ⟨j, hr⟩ := runs_of_running hs hc
    exact placed_of_leads hs hr (blockDelivered_frame ..) blockDelivered_tries (blockDelivered_leads hr)
  | tdoneTaken t =>
    unfold State.tdoneTaken
    split
    · rename_i c j hc hj
      split
      · obtain ⟨i, hr⟩ := runs_of_running hs (channelOf_running hc)
        exact placed_of_leads hs hr (deliver_frame ..) deliver_tries (deliver_leads hr id)
      · exact placed_refl hs
    all_goals exact placed_refl hs
  | takeFault t => exact takeFault_placed hs t
  | createJob t o relaxed only hb => exact createJob_placed hs t o relaxed only (hb trivial).1 (hb trivial).2
  | abortWaiting t j hj hstate => exact abortWaiting_placed hs hj hstate
  | abortDraining t => exact abortDraining_placed hs t
  | abortRunning c t hc =>
    obtain ⟨j, hr⟩ := runs_of_running hs hc
    exact placed_of_leads hs hr (abortRunning_frame ..) abortRunning_tries (abortRunning_leads hr)
  | lineAct t a hready hb => exact lineAct_placed hs t a hready hb
  | portState p x => exact setPortState_placed hs p x
  | cardGone =>
    have h := setPortState_placed hs .card .empty
    exact h.trans (placed_of_same h.1 rfl rfl (fun _ => rfl) id fun _ _ _ _ => ⟨rfl, id⟩)
  | setSource p e => exact edit (fun x => { x with sources := x.sources.set p e }) fun _ _ => rfl
  | setTarget t x _ hb =>
    refine edit (fun y => { y with targets := y.targets.set t x }) fun v hv => ?_
    have hne : v ≠ t := by rintro rfl; simp [hb] at hv
    rw [PerTarget.get_set_of_ne _ _ hne]
    rfl
  | setSettings x => exact edit (fun y => { y with settings := x }) fun _ _ => rfl
  | store f hset hu =>
    exact placed_of_same hs rfl rfl (fun _ => rfl) (fun h => by rw [State.updStore_store, hu]; exact h) fun _ _ _ _ =>
      ⟨by simp only [State.record, State.updStore_store, hset], id⟩
  | startUp f hu =>
    exact placed_of_same hs rfl rfl (fun _ => rfl) (fun h => absurd h hu) fun t j hj _ => absurd (ready_of_job hs hj) hu
  | _ => exact placed_of_frame hs rfl rfl rfl rfl rfl

/-! ### Every step -/

/-- Before READY no target has a job (R149). -/
theorem jobs_none (hs : s.JobsOk) (hu : s.store.startup ≠ .ready) (t : Target) : s.job t = none := by
  simp [State.job, hs.2.2 hu, JobSlot.reset]

theorem jobsOk_inner : Inner State.JobsOk := by constructor <;> exact fun _ _ h => h

theorem linesOk_inner : Inner State.LinesOk := by constructor <;> exact fun _ _ h => h

/-- A part with no job on no channel and in no queue. -/
theorem ok_of_idle (hj : s.jobs = .all .reset) (hc : ∀ c, (s.channels.get c).running = none) (hq : ∀ c, s.queues.get c = []) :
    s.JobsOk ∧ s.LinesOk := by
  have none : ∀ t, s.job t = none := fun t => by simp [State.job, hj, JobSlot.reset]
  refine ⟨⟨fun t => ?_, fun t j h => ?_, fun _ => hj⟩, fun t j h => ?_⟩
  · rw [State.JobPlaced, none t]
    simp [State.runCount, State.queueCount, hc, hq]
  all_goals simp [none t] at h

theorem powerOn_jobsOk (s : State) (rate : Fin 4) : (s.powerOn rate).JobsOk ∧ (s.powerOn rate).LinesOk :=
  ok_of_idle rfl (fun c => by cases c <;> rfl) (fun c => by cases c <;> rfl)

theorem beginStartUp_jobsOk (s : State) (rate : Fin 4) :
    (s.powerOn rate).beginStartUp.JobsOk ∧ (s.powerOn rate).beginStartUp.LinesOk := by
  have h0 : ((s.powerOn rate).updStore fun x => { x with startup := .probingPorts }).JobsOk
      ∧ ((s.powerOn rate).updStore fun x => { x with startup := .probingPorts }).LinesOk :=
    ok_of_idle rfl (fun c => by cases c <;> rfl) (fun c => by cases c <;> rfl)
  have h1 := setPortState_placed h0.1 .flash0 .probing
  have h2 := h1.trans (setPortState_placed h1.1 .flash1 .probing)
  have h3 := h2.trans (setPortState_placed h2.1 .card .waking)
  unfold State.beginStartUp
  dsimp only
  split
  · exact ⟨h3.1, h3.2 h0.2⟩
  · exact ⟨h2.1, h2.2 h0.2⟩

/-- Settles O59: the small steps keep the places of the jobs. -/
theorem jobPlacesKept : Obligations.JobPlacesKept := by
  intro s t hheld hs h
  exact jobsOk_inner.step_keeps (K := True) (fun _ _ hs h => (does_placed hs h).1) (fun s => (powerOn_jobsOk s 0).1)
    (fun s rate => (beginStartUp_jobsOk s rate).1) (fun _ hs _ hu => jobs_none hs hu)
    (fun q a b h => jobsOk_inner.resetDeassert_keeps (fun s rate => (beginStartUp_jobsOk s rate).1) hheld hs q a b h) hs h

/-- Settles O60: the small steps keep the held lines, with the places of the jobs beside them. -/
theorem heldLinesKept : Obligations.HeldLinesKept := by
  intro s t hheld hjobs hlines h
  have hP := jobsOk_inner.and linesOk_inner
  exact (hP.step_keeps (K := True) (fun _ _ hs h => ⟨(does_placed hs.1 h).1, (does_placed hs.1 h).2 hs.2⟩)
    (fun s => powerOn_jobsOk s 0) beginStartUp_jobsOk (fun _ hs _ hu => jobs_none hs.1 hu)
    (fun q a b h => hP.resetDeassert_keeps beginStartUp_jobsOk hheld ⟨hjobs, hlines⟩ q a b h) ⟨hjobs, hlines⟩ h).2

end Sys2Proof.Machine
end

section
/-! SUPPORT. The step, the completion of every command, and reset (O1 to O4, O53, O54). -/

namespace Sys2Proof.Machine

variable {K : Prop} {s u t : State} {i : Instr}

/-- Settles O1: the front command runs on the state with the queue's rest. -/
theorem stepRunsFrontCommand : Obligations.StepRunsFrontCommand := fun _ _ _ => rfl

/-! ### Pins and the waiting commands -/

/-- The event of command `i` leaves the waiting commands, and of the pins all but what the command tells. -/
def State.Senses (i : Instr) (s u : State) : Prop := u.pending = s.pending ∧ ∃ g, Tells i g ∧ u.pins = g s.pins

theorem OuterFrame.senses (h : OuterFrame s u) : State.Senses i s u := ⟨h.pending, id, .id i, h.pins⟩

theorem works_pins (h : State.Works K s u) : u.pending = s.pending ∧ u.pins = s.pins := by
  induction h with
  | refl => exact ⟨rfl, rfl⟩
  | tail _ h ih =>
    rcases h with h | ⟨r, w, st, data, -, rfl⟩
    · exact ⟨(does_outer h).pending.trans ih.1, (does_outer h).pins.trans ih.2⟩
    · exact ih

theorem works_senses (h : State.Works K s u) : State.Senses i s u := ⟨(works_pins h).1, id, .id i, (works_pins h).2⟩

theorem receiveByte_senses (b : Byte) : State.Senses i s (s.receiveByte b) := by
  have same : ∀ u : State, u.pending = s.pending → u.pins = s.pins → State.Senses i s u := fun u h1 h2 => ⟨h1, id, .id i, h2⟩
  unfold State.receiveByte
  split
  · exact same _ rfl rfl
  · exact same _ rfl rfl
  · exact same _ rfl rfl
  · exact works_senses (s := s.goodFrame) (dataFrame_works (K := False) _ _)
  · unfold State.takeAck
    split <;> exact same _ rfl rfl
  · exact same _ rfl rfl

theorem endSending_senses : State.Senses i s s.endSending := by
  have same : ∀ u : State, u.pending = s.pending → u.pins = s.pins → State.Senses i s u := fun u h1 h2 => ⟨h1, id, .id i, h2⟩
  unfold State.endSending
  split
  · exact same _ rfl rfl
  · split
    · split
      · exact (beginStartUp_outer (s.powerOn s.link.rate)).senses
      · exact same _ rfl rfl
    · exact same _ rfl rfl
  · exact same _ rfl rfl

/-- What an action leaves of the pins and of the waiting commands. -/
theorem acts_senses (h : State.Acts i s u) : State.Senses i s u := by
  have same : ∀ u : State, u.pending = s.pending → u.pins = s.pins → State.Senses i s u := fun u h1 h2 => ⟨h1, id, .id i, h2⟩
  cases h.by (K := False) fun k => k.elim with
  | works u h => exact works_senses h
  | receives b => exact receiveByte_senses b
  | startsSending =>
    unfold State.startSending
    split
    · exact same _ rfl rfl
    · split <;> exact same _ rfl rfl
    all_goals exact same _ rfl rfl
  | endsSending => exact endSending_senses
  | takes r rest u hi hl hq ha =>
    obtain ⟨g, s1, hg, h1, ⟨st, data, restart, rfl⟩ | ⟨w, h2⟩⟩ := ha
    · exact ⟨(quietWorks_outer h1).pending, g, hg, (quietWorks_outer h1).pins⟩
    · obtain ⟨e1, e2⟩ := works_pins h2
      exact ⟨e1.trans (quietWorks_outer h1).pending, g, hg, e2.trans (quietWorks_outer h1).pins⟩
  | _ => exact same _ rfl rfl

theorem flush_pins (s : State) (order : List ReportId) : (s.flush order).pins = s.pins ∧ (s.flush order).pending = s.pending := by
  obtain ⟨es, he⟩ := flush_eq s order
  rw [he]
  exact ⟨rfl, rfl⟩

/-- Every command has a next state (Log 24). -/
theorem exec_completes (i : Instr) (s : State) : ∃ t, exec i s = .next t := by
  cases i with
  | resetDeassert a b =>
    change ∃ t, execResetDeassert a b s = .next t
    unfold execResetDeassert
    split <;> exact ⟨_, rfl⟩
  | cardInsert =>
    change ∃ t, execCardInsert s = .next t
    unfold execCardInsert
    split <;> exact ⟨_, rfl⟩
  | cardRemove =>
    change ∃ t, execCardRemove s = .next t
    unfold execCardRemove
    split <;> exact ⟨_, rfl⟩
  | tfltAssert t =>
    change ∃ u, execTfltAssert t s = .next u
    unfold execTfltAssert
    split <;> exact ⟨_, rfl⟩
  | _ => exact ⟨_, rfl⟩

/-- Settles O2: each action leaves the waiting commands and the pins that its command does not tell. -/
theorem everyCommandCompletes : Obligations.EveryCommandCompletes := by
  intro i s
  obtain ⟨t, h⟩ := exec_completes i s
  refine ⟨t, h, ?_⟩
  by_cases hi : ∃ a b, i = .resetDeassert a b
  · obtain ⟨a, b, rfl⟩ := hi
    rcases resetDeassert_cases h with rfl | ⟨-, rfl⟩
    · exact ⟨rfl, fun _ => rfl⟩
    · exact ⟨(flush_pins ..).2.trans (beginStartUp_outer _).pending, fun hn => absurd trivial hn⟩
  · push Not at hi
    cases exec_next i s t hi h with
    | same => exact ⟨rfl, fun _ => rfl⟩
    | reset hp => exact ⟨rfl, fun hn => absurd hp hn⟩
    | held g hg _ => exact ⟨rfl, fun hn => by rw [hg.2.resolve_left hn]; rfl⟩
    | event g hg _ order u ha =>
      obtain ⟨h1, g', hg', h2⟩ := acts_senses ha
      obtain ⟨e1, e2⟩ := flush_pins u order
      refine ⟨e2.trans h1, fun hn => ?_⟩
      rw [e1, h2, hg.2.resolve_left hn, hg'.2.resolve_left hn]
      rfl

/-! ### Reset -/

/-- Settles O3. -/
theorem resetValues : Obligations.ResetValues := by
  refine ⟨fun t => ?_, fun c => ?_, fun c => ?_, rfl, rfl, rfl, rfl, rfl, fun t => ?_, rfl, rfl, ⟨0, rfl⟩, fun _ => rfl⟩
  · cases t <;> rfl
  · cases c <;> rfl
  · cases c <;> rfl
  · cases t <;> rfl

theorem heldOk_of_running (h : s.pins.reset = false) : s.HeldOk := fun hr => by simp [h] at hr

/-- Settles O54: an event is taken only while the input is not held, and RESET_ASSERT gives the values after reset. -/
theorem heldResetKept : Obligations.HeldResetKept := by
  intro s t hs h
  unfold step at h
  split at h
  · exact Host.Outcome.next.inj h ▸ hs
  · rename_i i rest hq
    have hs' : ({ s with pending := rest } : State).HeldOk := fun hr => by rw [hs hr]
    revert hs' h
    generalize ({ s with pending := rest } : State) = w
    intro h hw
    by_cases hi : ∃ a b, i = .resetDeassert a b
    · obtain ⟨a, b, rfl⟩ := hi
      rcases resetDeassert_cases h with rfl | ⟨-, rfl⟩
      · exact hw
      · refine heldOk_of_running ?_
        rw [(flush_pins ..).1, (beginStartUp_outer _).pins]
    · push Not at hi
      cases exec_next i w t hi h with
      | same => exact hw
      | reset => exact fun _ => rfl
      | held g hg hr => exact fun _ => by rw [hw hr]; rfl
      | event g hg hr order u ha =>
        obtain ⟨-, g', hg', h2⟩ := acts_senses ha
        refine heldOk_of_running ?_
        rw [(flush_pins ..).1, h2, hg'.1]
        exact (hg.1 _).trans hr

/-- R145, R92, R95: start-up begun over the values after reset. -/
theorem powerOn_beginStartUp (s : State) (rate : Fin 4) : ∃ l, (∀ x, x ∈ l ↔ x = ReportId.part)
    ∧ (s.powerOn rate).beginStartUp = { startingUp s.pins rate s.pending with raised := l } := by
  cases hc : s.pins.card
  · refine ⟨[.part, .part], by simp, ?_⟩
    simp [State.beginStartUp, State.powerOn, hc, startingUp, State.reset, State.setPortState, State.updStore, State.updPort,
      State.raise, resetPorts, PerPort.get, PerPort.set, SetupStore.reset]
  · refine ⟨[.part, .part, .part], by simp, ?_⟩
    simp [State.beginStartUp, State.powerOn, hc, startingUp, State.reset, State.setPortState, State.updStore, State.updPort,
      State.raise, resetPorts, PerPort.get, PerPort.set, SetupStore.reset]

/-- R179: a PART submission says what the part is at that moment. -/
theorem submit_part (s : State) : s.submit .part = s.withPartReport := rfl

/-- R145: an event that begins start-up queues one PART report. -/
theorem happens_startsUp (f : State → State) (s v : State) (rate : Fin 4) (h : s.pins.reset = false)
    (hf : f { s with raised := [] } = (v.powerOn rate).beginStartUp) :
    happens f s = .next (startingUp v.pins rate v.pending).withPartReport := by
  obtain ⟨l, hl, e⟩ := powerOn_beginStartUp v rate
  rw [happens_one f s _ .part h (hf.trans e) hl, submit_part]
  rfl

/-- Settles O4: both ways into start-up begin it over the values after reset. -/
theorem resetsStartThePart : Obligations.ResetsStartThePart := by
  refine ⟨fun s => rfl, fun pins q rate1 rate0 hr => ⟨rateCode rate1 rate0, ?_, ?_⟩, fun s f r rest hr htx hq hs => ?_⟩
  · cases rate1 <;> cases rate0 <;> rfl
  · change execResetDeassert _ _ _ = _
    unfold execResetDeassert
    rw [if_pos hr]
    exact happens_startsUp _ _ { State.reset with pins := { pins with reset := false }, pending := q } _ rfl rfl
  · refine happens_startsUp _ _ s s.link.rate hr ?_
    unfold State.endSending
    rw [show ({ s with raised := [] } : State).link.tx = .reply f from htx]
    dsimp only
    rw [hq]
    dsimp only
    rw [if_pos hs]
    rfl

/-- Settles O53: each invariant, at the values after reset. -/
theorem invariantsHoldAtReset : Obligations.InvariantsHoldAtReset := by
  refine ⟨fun _ => rfl, powerOn_setupOk .reset 0, powerOn_portsOk .reset 0, ?_, ?_, ?_, (powerOn_jobsOk .reset 0).1,
    (powerOn_jobsOk .reset 0).2⟩
  · simp [State.LinkOk, State.reset, Link.reset]
  · simp [State.SequencesOk, State.reset, Link.reset]
  · simp [ReportQueue.Ok, State.reset, ReportQueue.reset, ReportQueue.flying]

end Sys2Proof.Machine
end

section
/-! SUPPORT. Byte ranges of what is built by appending, and the round trips of frames, records and saved copies (O5, O48, O51, O52). -/

namespace Sys2Proof.Machine

/-! ### Byte ranges -/

theorem bytesAt_length (bs : List Byte) (i k : Nat) : (bytesAt bs i k).length = min k (bs.length - i) := by
  rw [bytesAt, List.length_take, List.length_drop]

theorem bytesAt_take {bs : List Byte} {i k n : Nat} (h : i + k ≤ n) : bytesAt (bs.take n) i k = bytesAt bs i k := by
  rw [bytesAt, bytesAt, List.drop_take, List.take_take, min_eq_left (by omega)]

theorem byteAt_take {bs : List Byte} {i n : Nat} (h : i < n) : byteAt (bs.take n) i = byteAt bs i := by
  simp [byteAt, List.getD_eq_getElem?_getD, List.getElem?_take_of_lt h]

theorem bytesAt_append_left {xs ys : List Byte} {i k : Nat} (h : i + k ≤ xs.length) : bytesAt (xs ++ ys) i k = bytesAt xs i k := by
  rw [bytesAt, bytesAt, List.drop_append_of_le_length (by omega), List.take_append_of_le_length (by rw [List.length_drop]; omega)]

theorem bytesAt_append_right (xs ys : List Byte) {i j k : Nat} (h : j = xs.length + i) : bytesAt (xs ++ ys) j k = bytesAt ys i k := by
  rw [bytesAt, bytesAt, h, List.drop_length_add_append]

/-- The bytes at the head of an appended list are its first part. -/
theorem bytesAt_prefix (xs ys : List Byte) {k : Nat} (h : k = xs.length) : bytesAt (xs ++ ys) 0 k = xs := by
  rw [bytesAt_append_left (by omega), bytesAt_zero, h, List.take_length]

/-- Records of one length laid out one after another: the bytes of the `i`-th are the record. -/
theorem bytesAt_records {α : Type} (f : α → List Byte) (w : Nat) (ys : List Byte) :
    ∀ (l : List α) (i : Nat) (x : α), (∀ x ∈ l, (f x).length = w) → l[i]? = some x →
      bytesAt (l.flatMap f ++ ys) (w * i) w = f x := by
  intro l
  induction l with
  | nil => intro i x _ h; simp at h
  | cons y l ih =>
    intro i x hw h
    have hy : (f y).length = w := hw y (by simp)
    rw [List.flatMap_cons, List.append_assoc]
    cases i with
    | zero =>
      obtain rfl : y = x := by simpa using h
      exact bytesAt_prefix _ _ hy.symm
    | succ i =>
      rw [bytesAt_append_right _ _ (i := w * i) (by rw [hy, Nat.mul_succ, Nat.add_comm])]
      exact ih i x (fun z hz => hw z (by simp [hz])) (by simpa using h)

theorem flatMap_length {α : Type} (f : α → List Byte) (w : Nat) (l : List α) (hw : ∀ x ∈ l, (f x).length = w) :
    (l.flatMap f).length = w * l.length := by
  induction l with
  | nil => rfl
  | cons y l ih =>
    rw [List.flatMap_cons, List.length_append, hw y (by simp), ih fun z hz => hw z (by simp [hz]), List.length_cons, Nat.mul_succ,
      Nat.add_comm]

@[simp] theorem byteAt_cons_zero (b : Byte) (bs : List Byte) : byteAt (b :: bs) 0 = b := rfl

@[simp] theorem byteAt_cons_succ (b : Byte) (bs : List Byte) (i : Nat) : byteAt (b :: bs) (i + 1) = byteAt bs i := rfl

@[simp] theorem bytesAt_cons_succ (b : Byte) (bs : List Byte) (i k : Nat) : bytesAt (b :: bs) (i + 1) k = bytesAt bs i k := rfl

theorem byteAt_append_right (xs ys : List Byte) {i j : Nat} (h : j = xs.length + i) : byteAt (xs ++ ys) j = byteAt ys i := by
  rw [byteAt, byteAt, List.getD_eq_getElem?_getD, List.getD_eq_getElem?_getD, h, List.getElem?_append_right (by omega),
    Nat.add_sub_cancel_left]

theorem u8_toNat {n : Nat} (h : n < 256) : (u8 n).toNat = n := by
  rw [u8, BitVec.toNat_ofNat, Nat.mod_eq_of_lt h]

/-- A 32-bit number written little-endian reads back as itself. -/
theorem word_le (x : Word32) : word (le 4 x.toNat) = x := by
  rw [word, ofLE_le_of_lt x.isLt, BitVec.ofNat_toNat, BitVec.setWidth_eq]

/-! ### Block 0 and DATA payloads (R60, R115) -/

/-- R60: the Header Check reads bytes 0 to 31 alone. -/
theorem judge_take {bs : List Byte} (h : 32 ≤ bs.length) (r : TargetRecord) (relaxed : Bool) :
    judge bs r relaxed = judge (bs.take 32) r relaxed := by
  have hl : (bs.take 32).length = 32 := by rw [List.length_take]; omega
  unfold judge hdrLength hdrVersion Config.headerBytes
  rw [if_neg (Nat.not_lt.2 h), hl, if_neg (Nat.lt_irrefl 32), bytesAt_take (i := 0) (k := 4) (by decide),
    bytesAt_take (i := 0) (k := 30) (by decide), bytesAt_take (i := 30) (k := 2) (by decide), byteAt_take (i := 4) (by decide),
    byteAt_take (i := 5) (by decide), byteAt_take (i := 6) (by decide), byteAt_take (i := 7) (by decide),
    bytesAt_take (i := 8) (k := 4) (by decide), bytesAt_take (i := 12) (k := 4) (by decide)]

theorem parseData_some {payload : List Byte} {d : DataFields} (h : parseData payload = some d) :
    d.data = payload.drop 4 ∧ 1 ≤ d.data.length ∧ d.data.length ≤ 128 := by
  unfold parseData at h
  split at h
  · obtain ⟨t, -, rfl⟩ := Option.map_eq_some_iff.1 h
    refine ⟨rfl, ?_, ?_⟩ <;> rw [List.length_drop] <;> omega
  · cases h

/-- R115: a DATA payload of its three leading fields and 1 to 128 bytes. -/
theorem parseData_fields (t : Target) (tag lo hi : Byte) (data : List Byte) (h1 : 1 ≤ data.length) (h2 : data.length ≤ 128) :
    parseData (targetCode t :: tag :: lo :: hi :: data) = some ⟨t, tag, lo.toNat + 256 * hi.toNat, data⟩ := by
  have hl : 5 ≤ (targetCode t :: tag :: lo :: hi :: data).length ∧ (targetCode t :: tag :: lo :: hi :: data).length ≤ 132 := by
    simp only [List.length_cons]; omega
  rw [parseData, if_pos hl, byteAt_cons_zero, targetOf_targetCode, ofLE_bytesAt_two]
  rfl

/-- Settles O48: each part is a property of the check, of the operand check or of the parser. -/
theorem headerBytesAlone : Obligations.HeaderBytesAlone := by
  refine ⟨fun bs r relaxed => ⟨fun h => ?_, fun h => judge_take h r relaxed⟩, fun p n data h => ?_,
    fun payload d h => parseData_some h, parseData_fields⟩
  · exact if_pos h
  · simp only [Instr.wf, Bool.and_eq_true] at h
    obtain ⟨hp, hd⟩ := h
    have hlen : data.length = Config.blockBytes := of_decide_eq_true hd
    exact ⟨by rintro rfl; simp [Port.readPlace] at hp, hlen⟩

/-! ### Frames (R164, R172) -/

/-- Settles O51: each field of the frame stands where the check reads it. -/
theorem frameRoundTrip : Obligations.FrameRoundTrip := by
  intro seq kind payload hp
  refine ⟨by simp [frameOf], ?_⟩
  have hn : (byteAt (frameOf seq kind payload) 1).toNat = payload.length + 2 := u8_toNat (by omega)
  have hbody : bytesAt (frameOf seq kind payload) 1 (payload.length + 2 + 1) = u8 (payload.length + 2) :: seq :: kind :: payload := by
    rw [frameOf, bytesAt_cons_succ]
    exact bytesAt_prefix _ _ (by simp)
  have hcheck : ∀ x : BitVec 16, x = crc16 (u8 (payload.length + 2) :: seq :: kind :: payload) →
      bytesAt (frameOf seq kind payload) (payload.length + 2 + 2) 2 = le 2 x.toNat := by
    rintro x rfl
    rw [frameOf, show payload.length + 2 + 2 = (payload.length + 3) + 1 from rfl, bytesAt_cons_succ,
      bytesAt_append_right _ _ (i := 0) (by simp), bytesAt_zero, List.take_of_length_le (by simp)]
  have hpay : bytesAt (frameOf seq kind payload) 4 (payload.length + 2 - 2) = payload := by
    show bytesAt (payload ++ _) 0 _ = payload
    exact bytesAt_prefix _ _ (by omega)
  unfold checkFrame
  dsimp only
  rw [hn, hbody, hcheck _ rfl, ofLE_le_of_lt (BitVec.isLt _), if_pos rfl, hpay]
  rfl

/-! ### Records (R193) -/

theorem SourceEntry.encode_length (e : SourceEntry) : e.encode.length = 6 := by simp [SourceEntry.encode]

theorem TargetRecord.encode_length (r : TargetRecord) : r.encode.length = 21 := by simp [TargetRecord.encode]

theorem Settings.encode_length (x : Settings) : x.encode.length = 13 := rfl

/-- R32, R193: a source entry in range reads back from its bytes. -/
theorem parse_source_encode {e : SourceEntry} (h : e.inRange = true) : SourceEntry.parse e.encode = some e := by
  have hb : e.base < 256 ^ 4 := by
    simp only [SourceEntry.inRange, Bool.and_eq_true, decide_eq_true_eq] at h
    exact Nat.lt_of_le_of_lt h.1 (by decide)
  have hbase : ofLE (bytesAt e.encode 2 4) = e.base := by
    show ofLE (bytesAt (le 4 e.base) 0 4) = _
    rw [bytesAt_zero, List.take_of_length_le (by simp), ofLE_le_of_lt hb]
  have h0 : byteAt e.encode 0 = markCode e.enabled := rfl
  have h1 : byteAt e.encode 1 = portCode e.port := rfl
  simp [SourceEntry.parse, hbase, h0, h1, h]

/-- R3, R193: a target record in range reads back from its bytes. -/
theorem parse_target_encode {r : TargetRecord} (h : r.inRange = true) : TargetRecord.parse r.encode = some r := by
  have hr := h
  simp only [TargetRecord.inRange, Bool.and_eq_true, decide_eq_true_eq] at hr
  obtain ⟨⟨⟨⟨⟨⟨⟨⟨⟨-, -⟩, hpass⟩, hback⟩, -⟩, -⟩, -⟩, hready⟩, -⟩, hdone⟩ := hr
  have hmax := TargetRecord.inRange_maxPayload h
  have e1 : r.encode = [markCode r.present, kindCode r.kind, r.imageType, u8 r.cls.val, searchCode r.mode, r.candidates,
      u8 r.passLimit, u8 r.backoff] ++ (le 4 r.maxPayload ++ (le 4 r.versionFloor.toNat
      ++ [markCode r.raisePermitted, markCode r.autoStart, markCode r.reload, u8 r.readyTimeout, u8 r.doneTimeout])) := by
    simp [TargetRecord.encode]
  have hpl : ofLE (bytesAt r.encode 8 4) = r.maxPayload := by
    rw [e1, bytesAt_append_right _ _ (i := 0) (by rfl), bytesAt_prefix _ _ (by simp), ofLE_le_of_lt (by omega)]
  have hvf : word (bytesAt r.encode 12 4) = r.versionFloor := by
    rw [e1, bytesAt_append_right _ _ (i := 4) (by rfl), bytesAt_append_right _ _ (i := 0) (by simp), bytesAt_prefix _ _ (by simp), word_le]
  have hcls : classOf (u8 r.cls.val) = some r.cls := by
    have : (u8 r.cls.val).toNat = r.cls.val := u8_toNat (by omega)
    simp [classOf, this]
  have tail : ∀ i, byteAt r.encode (16 + i) = byteAt [markCode r.raisePermitted, markCode r.autoStart, markCode r.reload,
      u8 r.readyTimeout, u8 r.doneTimeout] i := fun i => by
    rw [e1, byteAt_append_right _ _ (i := 8 + i) (by simp; omega), byteAt_append_right _ _ (i := 4 + i) (by simp; omega),
      byteAt_append_right _ _ (i := i) (by simp)]
  have head : byteAt r.encode 0 = markCode r.present ∧ byteAt r.encode 1 = kindCode r.kind ∧ byteAt r.encode 2 = r.imageType
      ∧ byteAt r.encode 3 = u8 r.cls.val ∧ byteAt r.encode 4 = searchCode r.mode ∧ byteAt r.encode 5 = r.candidates
      ∧ byteAt r.encode 6 = u8 r.passLimit ∧ byteAt r.encode 7 = u8 r.backoff := ⟨rfl, rfl, rfl, rfl, rfl, rfl, rfl, rfl⟩
  obtain ⟨h0, h1, h2, h3, h4, h5, h6, h7⟩ := head
  have hp : (u8 r.passLimit).toNat = r.passLimit := u8_toNat (by omega)
  have hbk : (u8 r.backoff).toNat = r.backoff := u8_toNat (by omega)
  have hrt : (u8 r.readyTimeout).toNat = r.readyTimeout := u8_toNat (by omega)
  have hdt : (u8 r.doneTimeout).toNat = r.doneTimeout := u8_toNat (by omega)
  have t16 := tail 0
  have t17 := tail 1
  have t18 := tail 2
  have t19 := tail 3
  have t20 := tail 4
  simp only [byteAt_cons_succ, byteAt_cons_zero] at t16 t17 t18 t19 t20
  simp [TargetRecord.parse, h0, h1, h2, h3, h4, h5, h6, h7, t16, t17, t18, t19, t20, hpl, hvf, hcls, hp, hbk, hrt, hdt, h]

theorem limitOf_u8 {n : Nat} (h1 : 1 ≤ n) (h2 : n ≤ 3) : limitOf (u8 n) = some n := by
  rw [limitOf, u8_toNat (by omega), if_pos ⟨h1, h2⟩]

/-- R111, R193: settings in range read back from their bytes, each item in its range. -/
theorem load_settings_encode {x : Settings} (h : x.inRange = true) :
    Settings.load x.encode = x ∧ Settings.clean x.encode = true := by
  simp only [Settings.inRange, List.all_cons, List.all_nil, Bool.and_true, Bool.and_eq_true, decide_eq_true_eq] at h
  obtain ⟨⟨⟨⟨a0, b0⟩, ⟨a1, b1⟩, ⟨a2, b2⟩, ⟨a3, b3⟩⟩, c1⟩, c2⟩ := h
  have ht : hostTimeoutOf (u8 x.hostTimeout) = some x.hostTimeout := by
    rw [hostTimeoutOf, u8_toNat (by omega), if_pos ⟨c1, c2⟩]
  have l0 : limitOf (u8 x.limits.flash0) = some x.limits.flash0 := limitOf_u8 a0 b0
  have l1 : limitOf (u8 x.limits.flash1) = some x.limits.flash1 := limitOf_u8 a1 b1
  have l2 : limitOf (u8 x.limits.card) = some x.limits.card := limitOf_u8 a2 b2
  have l3 : limitOf (u8 x.limits.host) = some x.limits.host := limitOf_u8 a3 b3
  constructor
  · simp [Settings.load, Settings.encode, ht, l0, l1, l2, l3]
  · simp [Settings.clean, Settings.encode, ht, l0, l1, l2, l3]

/-! ### Saved copies (R142, R143, R148) -/

theorem Setup.encode_length (x : Setup) : x.encode.length = 187 := by
  simp only [Setup.encode, List.length_append, flatMap_length _ 6 _ fun p _ => SourceEntry.encode_length (x.sources.get p),
    flatMap_length _ 21 _ fun t _ => TargetRecord.encode_length (x.targets.get t), Settings.encode_length]
  rfl

theorem copyCovered_length (g : Word32) (x : Setup) : (copyCovered g x).length = 197 := by
  simp [copyCovered, copyMarker, Setup.encode_length]

/-- The body of a copy stands behind its first 10 bytes. -/
theorem bytesAt_body (g : Word32) (x : Setup) (i k : Nat) (ys : List Byte) :
    bytesAt (copyCovered g x ++ ys) (10 + i) k = bytesAt (x.encode ++ ys) i k := by
  rw [copyCovered, List.append_assoc, List.append_assoc, List.append_assoc]
  rw [bytesAt_append_right _ _ (i := 6 + i) (by simp [copyMarker]; omega), bytesAt_append_right _ _ (i := 2 + i) (by simp; omega),
    bytesAt_append_right _ _ (i := i) (by simp)]

theorem copySource_build (g : Word32) (x : Setup) (p : Position) (ys : List Byte) :
    copySource (copyCovered g x ++ ys) p = (x.sources.get p).encode := by
  rw [copySource, bytesAt_body, Setup.encode, List.append_assoc, List.append_assoc]
  exact bytesAt_records _ 6 _ _ _ p (fun q _ => SourceEntry.encode_length _) (by cases p <;> rfl)

theorem copyTarget_build (g : Word32) (x : Setup) (t : Target) (ys : List Byte) :
    copyTarget (copyCovered g x ++ ys) t = (x.targets.get t).encode := by
  rw [copyTarget, show 58 + 21 * targetNum t = 10 + (48 + 21 * targetNum t) by omega, bytesAt_body, Setup.encode, List.append_assoc,
    List.append_assoc, bytesAt_append_right _ _ (i := 21 * targetNum t)
      (by rw [flatMap_length _ 6 _ fun p _ => SourceEntry.encode_length (x.sources.get p)]; rfl)]
  exact bytesAt_records _ 21 _ _ _ t (fun u _ => TargetRecord.encode_length _) (by cases t <;> rfl)

theorem copySettings_build (g : Word32) (x : Setup) (ys : List Byte) :
    copySettings (copyCovered g x ++ ys) = x.settings.encode := by
  rw [copySettings, show 184 = 10 + 174 from rfl, bytesAt_body, Setup.encode, List.append_assoc,
    bytesAt_append_right _ _ (i := 0) (by
      rw [List.length_append, flatMap_length _ 6 _ fun p _ => SourceEntry.encode_length (x.sources.get p),
        flatMap_length _ 21 _ fun t _ => TargetRecord.encode_length (x.targets.get t)]; rfl)]
  exact bytesAt_prefix _ _ rfl

/-- Settles O52: each field and record stands in the copy where it is read back. -/
theorem savedCopyRoundTrip : Obligations.SavedCopyRoundTrip := by
  intro g x hx
  obtain ⟨hsrc, htgt, hset⟩ := hx
  obtain ⟨hload, hclean⟩ := load_settings_encode hset
  unfold buildCopy
  dsimp only
  rw [List.append_assoc]
  generalize hys : le 4 (crc32 (copyCovered g x)).toNat ++ List.replicate 55 0xFF#8 = ys
  have fields : copyCovered g x ++ ys = copyMarker ++ (le 4 g.toNat ++ (le 2 Config.bodyBytes ++ (x.encode ++ ys))) := by
    simp [copyCovered]
  have source : ∀ p, SourceEntry.parse (copySource (copyCovered g x ++ ys) p) = some (x.sources.get p) := fun p => by
    rw [copySource_build, parse_source_encode (hsrc p)]
  have target : ∀ t, TargetRecord.parse (copyTarget (copyCovered g x ++ ys) t) = some (x.targets.get t) := fun t => by
    rw [copyTarget_build, parse_target_encode (htgt t)]
  refine ⟨by simp [copyCovered_length, ← hys], ?_, ?_, ?_, ?_⟩
  · have h1 : bytesAt (copyCovered g x ++ ys) 0 4 = copyMarker := by rw [fields]; exact bytesAt_prefix _ _ rfl
    have h2 : ofLE (bytesAt (copyCovered g x ++ ys) 8 2) = Config.bodyBytes := by
      rw [fields, bytesAt_append_right _ _ (i := 4) (by rfl), bytesAt_append_right _ _ (i := 0) (by simp), bytesAt_prefix _ _ (by simp),
        ofLE_le_of_lt (by decide)]
    have h3 : bytesAt (copyCovered g x ++ ys) 0 197 = copyCovered g x := bytesAt_prefix _ _ (copyCovered_length g x).symm
    have h4 : word (bytesAt (copyCovered g x ++ ys) 197 4) = crc32 (copyCovered g x) := by
      rw [bytesAt_append_right _ _ (i := 0) (by rw [copyCovered_length]), ← hys, bytesAt_prefix _ _ (by simp), word_le]
    simp [copyValid, h1, h2, h3, h4]
  · rw [copyGeneration, fields, bytesAt_append_right _ _ (i := 0) (by rfl), bytesAt_prefix _ _ (by simp), word_le]
  · simp [loadSetup, source, target, copySettings_build, hload, PerPosition.get, PerTarget.get]
  · simp [loadReplaces, source, target, copySettings_build, hclean]

/-- R147's table: the choice among the copies, each as it was read or not valid. -/
def SetupStore.chosen (x : SetupStore) : Option (List Byte) → Option (List Byte) → SetupStore
  | some a, some b => if copyGeneration a < copyGeneration b then x.choose .b b .none else x.choose .a a .none
  | some a, none => x.choose .a a .otherCopyInvalid
  | none, some b => x.choose .b b .otherCopyInvalid
  | none, none => { x with origin := .defaults, reason := .noValidCopy }

theorem judge_eq_chosen (x : SetupStore) (u0 u1 v0 v1 : Option (List Byte)) :
    x.judge [u0, u1, v0, v1] = x.chosen (validCopy u0 u1) (validCopy v0 v1) := by
  simp only [SetupStore.judge, List.getD_cons_zero, List.getD_cons_succ]
  cases validCopy u0 u1 <;> cases validCopy v0 v1 <;> rfl

theorem validCopy_failed (u v : Option (List Byte)) (h : u = none ∨ v = none) : validCopy u v = none := by
  rcases h with rfl | rfl
  · rfl
  · cases u <;> rfl

/-- Settles O5: by the cases of R147's table. -/
theorem copyChoiceFollowsTable : Obligations.CopyChoiceFollowsTable := by
  intro x a0 a1 b0 b1 A B loads chosenA chosenB
  have read : ∀ x y : List Byte, copyValid (x ++ y) = true → validCopy (some x) (some y) = some (x ++ y) := fun x y h => if_pos h
  have bad : ∀ x y : List Byte, copyValid (x ++ y) = false → validCopy (some x) (some y) = none := fun x y h => if_neg (by simp [h])
  refine ⟨fun ha hb hg => ?_, fun ha hb hg => ?_, fun ha hb => ?_, fun ha hb => ?_, fun ha hb => ?_, fun ha u v h => ?_,
    fun hb u v h => ?_⟩
  · rw [judge_eq_chosen, read _ _ ha, read _ _ hb]
    exact if_neg hg
  · rw [judge_eq_chosen, read _ _ ha, read _ _ hb]
    exact if_pos hg
  · rw [judge_eq_chosen, read _ _ ha, bad _ _ hb]
    rfl
  · rw [judge_eq_chosen, bad _ _ ha, read _ _ hb]
    rfl
  · rw [judge_eq_chosen, bad _ _ ha, bad _ _ hb]
    rfl
  · rw [judge_eq_chosen, read _ _ ha, validCopy_failed u v h]
    rfl
  · rw [judge_eq_chosen, validCopy_failed u v h, read _ _ hb]
    rfl

end Sys2Proof.Machine
end

section
/-! SUPPORT. How an event ends: the reports it has raised, placed in its order; and what the relations of the search say of the
state they reach. -/

namespace Sys2Proof.Machine

variable {s u v : State} {t : Target} {j k : Job} {c : Chan} {f : State → State} {l : List ReportId}

/-! ### The end of an event (R179) -/

theorem submit_raised (u : State) (l : List ReportId) (r : ReportId) :
    ({ u with raised := l } : State).submit r = { u.submit r with raised := l } := by
  rw [submit_eq, submit_eq, content_raised]

/-- The reports raised are submitted one after another in the event's order. -/
theorem flush_raised (order rs : List ReportId) (hu : u.raised = []) (h : order.filter (· ∈ l) = rs) :
    ({ u with raised := l } : State).flush order = rs.foldl State.submit u := by
  have key : ∀ (os : List ReportId) (w : State), os.foldl (fun x r => if r ∈ l then x.submit r else x) { w with raised := l }
      = { (os.filter (· ∈ l)).foldl State.submit w with raised := l } := by
    intro os
    induction os with
    | nil => intro w; rfl
    | cons o os ih =>
      intro w
      rw [List.foldl_cons]
      split
      · rename_i ho
        rw [submit_raised, ih, List.filter_cons_of_pos (by simpa using ho)]
        rfl
      · rename_i ho
        rw [ih, List.filter_cons_of_neg (by simpa using ho)]
  have raised : ∀ (os : List ReportId) (w : State), (os.foldl State.submit w).raised = w.raised := by
    intro os
    induction os with
    | nil => intro w; rfl
    | cons o os ih => intro w; rw [List.foldl_cons, ih, submit_eq]
  rw [State.flush]
  dsimp only
  rw [key, h]
  have := (raised rs u).trans hu
  generalize rs.foldl State.submit u = w at this
  cases w
  simp_all

theorem happens_reports (rs : List ReportId) (h : s.pins.reset = false) (hf : f { s with raised := [] } = { u with raised := l })
    (hu : u.raised = []) (hl : tableOrder.filter (· ∈ l) = rs) : happens f s = .next (rs.foldl State.submit u) := by
  rw [happens, event_running _ _ _ h, hf, flush_raised _ rs hu hl]

theorem happensWantFirst_reports (rs : List ReportId) (h : s.pins.reset = false)
    (hf : f { s with raised := [] } = { u with raised := l }) (hu : u.raised = []) (hl : wantFirst.filter (· ∈ l) = rs) :
    happensWantFirst f s = .next (rs.foldl State.submit u) := by
  rw [happensWantFirst, event_running _ _ _ h, hf, flush_raised _ rs hu hl]

/-- The reports raised, in an order, as another list with the same members gives them. -/
theorem filter_raised (order : List ReportId) {l m : List ReportId} (h : ∀ x, x ∈ l ↔ x ∈ m) :
    order.filter (· ∈ l) = order.filter (· ∈ m) := by
  simp only [h]

theorem tableOrder_job (t : Target) : tableOrder.filter (· ∈ [ReportId.job t]) = [.job t] := by cases t <;> decide
theorem tableOrder_want (t : Target) : tableOrder.filter (· ∈ [ReportId.want t]) = [.want t] := by cases t <;> decide
theorem tableOrder_part_job (t : Target) : tableOrder.filter (· ∈ [ReportId.part, .job t]) = [.part, .job t] := by
  cases t <;> decide
theorem tableOrder_job_want (t : Target) : tableOrder.filter (· ∈ [ReportId.job t, .want t]) = [.job t, .want t] := by
  cases t <;> decide
theorem wantFirst_job (t : Target) : wantFirst.filter (· ∈ [ReportId.job t]) = [.job t] := by cases t <;> decide
theorem wantFirst_want_job (t : Target) : wantFirst.filter (· ∈ [ReportId.want t, .job t]) = [.want t, .job t] := by
  cases t <;> decide

/-- A WANT submission lists what the target wants under its job's tag. -/
theorem submit_want (s : State) (t : Target) (j : Job) (h : s.job t = some j) : s.submit (.want t) = s.withWantReport t j.tag := by
  simp [State.submit, State.content, State.wantItems, h, State.updReports, State.withWantReport, State.withReport]

theorem happens_part (h : s.pins.reset = false) (hf : f { s with raised := [] } = { u with raised := l }) (hu : u.raised = [])
    (hl : ∀ x, x ∈ l ↔ x = .part) : happens f s = .next u.withPartReport :=
  happens_reports [.part] h hf hu ((filter_raised _ (m := [.part]) (by simpa using hl)).trans (by decide))

theorem happens_job (h : s.pins.reset = false) (hf : f { s with raised := [] } = { u with raised := l }) (hu : u.raised = [])
    (hj : u.job t = some k) (hl : ∀ x, x ∈ l ↔ x = .job t) : happens f s = .next (u.withJobReport t k) := by
  rw [happens_reports _ h hf hu ((filter_raised _ (m := [.job t]) (by simpa using hl)).trans (tableOrder_job t)), ← submit_job u t k hj]
  rfl

theorem happensWantFirst_job (h : s.pins.reset = false) (hf : f { s with raised := [] } = { u with raised := l })
    (hu : u.raised = []) (hj : u.job t = some k) (hl : ∀ x, x ∈ l ↔ x = .job t) :
    happensWantFirst f s = .next (u.withJobReport t k) := by
  rw [happensWantFirst_reports _ h hf hu ((filter_raised _ (m := [.job t]) (by simpa using hl)).trans (wantFirst_job t)),
    ← submit_job u t k hj]
  rfl

theorem happens_want (h : s.pins.reset = false) (hf : f { s with raised := [] } = { u with raised := l }) (hu : u.raised = [])
    (hj : u.job t = some k) (hl : ∀ x, x ∈ l ↔ x = .want t) : happens f s = .next (u.withWantReport t k.tag) := by
  rw [happens_reports _ h hf hu ((filter_raised _ (m := [.want t]) (by simpa using hl)).trans (tableOrder_want t)),
    ← submit_want u t k hj]
  rfl

theorem happens_part_job (h : s.pins.reset = false) (hf : f { s with raised := [] } = { u with raised := l }) (hu : u.raised = [])
    (hj : u.job t = some k) (hl : ∀ x, x ∈ l ↔ x = .part ∨ x = .job t) :
    happens f s = .next (u.withPartReport.withJobReport t k) := by
  rw [happens_reports _ h hf hu ((filter_raised _ (m := [.part, .job t]) (by simpa using hl)).trans (tableOrder_part_job t))]
  exact congrArg _ (submit_job u.withPartReport t k hj)

theorem happens_job_want (h : s.pins.reset = false) (hf : f { s with raised := [] } = { u with raised := l }) (hu : u.raised = [])
    (hj : u.job t = some k) (hl : ∀ x, x ∈ l ↔ x = .job t ∨ x = .want t) :
    happens f s = .next ((u.withJobReport t k).withWantReport t k.tag) := by
  rw [happens_reports _ h hf hu ((filter_raised _ (m := [.job t, .want t]) (by simpa using hl)).trans (tableOrder_job_want t)),
    ← submit_job u t k hj, ← submit_want (u.submit (.job t)) t k (by rw [submit_job u t k hj]; exact hj)]
  rfl

theorem happensWantFirst_want_job (h : s.pins.reset = false) (hf : f { s with raised := [] } = { u with raised := l })
    (hu : u.raised = []) (hj : u.job t = some k) (hl : ∀ x, x ∈ l ↔ x = .want t ∨ x = .job t) :
    happensWantFirst f s = .next ((u.withWantReport t k.tag).withJobReport t k) := by
  rw [happensWantFirst_reports _ h hf hu ((filter_raised _ (m := [.want t, .job t]) (by simpa using hl)).trans (wantFirst_want_job t)),
    ← submit_want u t k hj, ← submit_job (u.submit (.want t)) t k (by rw [submit_want u t k hj]; exact hj)]
  rfl

/-! ### What the relations of the search say of the state they reach -/

@[simp] theorem withJob_job (s : State) (t : Target) (k : Job) : (s.withJob t k).job t = some k := by
  simp [State.withJob, State.job]

/-- `u` is reached from `s` with `t`'s job record `k`; the Setup Store, the link, the ports, the channels but `c` and the reports
raised are left. -/
structure State.Lands (s : State) (c : Chan) (t : Target) (u : State) (k : Job) : Prop where
  job : u.job t = some k
  store : u.store = s.store
  link : u.link = s.link
  ports : u.ports = s.ports
  others : ∀ d, d ≠ c → u.channels.get d = s.channels.get d
  raised : u.raised = s.raised

theorem get_set_others (s : State) (c : Chan) (x : Channel) (d : Chan) (h : d ≠ c) :
    (s.channels.set c x).get d = s.channels.get d := PerChan.get_set_of_ne _ _ h

theorem State.PassEnded.lands (h : s.PassEnded c t j u k) : s.Lands c t u k := by
  unfold State.PassEnded at h
  dsimp only at h
  split at h
  · obtain ⟨rfl, rfl⟩ := h
    exact ⟨withJob_job .., rfl, rfl, rfl, get_set_others s c _, rfl⟩
  · split at h
    · obtain ⟨rfl, rfl⟩ := h
      exact ⟨by simp [State.job, State.withJob], rfl, rfl, rfl, get_set_others s c _, rfl⟩
    · obtain ⟨rfl, rfl⟩ := h
      exact ⟨by simp [State.job], rfl, rfl, rfl, get_set_others s c _, rfl⟩

theorem State.Moved.lands (h : s.Moved c t j u k) : s.Lands c t u k := by
  rcases h with ⟨ds, r, rs, -, -, -, -, -, rfl, rfl⟩ | ⟨ds, x, xs, -, -, -, -, -, -, rfl, rfl⟩ | ⟨-, h⟩
  · exact ⟨withJob_job .., rfl, rfl, rfl, get_set_others s c _, rfl⟩
  · exact ⟨withJob_job .., rfl, rfl, rfl, get_set_others s c _, rfl⟩
  · exact h.lands

/-- A state that differs in its channel `c`, its jobs, lines and wanted set may take the place of the first. -/
theorem State.Lands.of_start {w : State} (h : w.Lands c t u k) (hs : w.store = s.store) (hl : w.link = s.link)
    (hp : w.ports = s.ports) (hc : ∀ d, d ≠ c → w.channels.get d = s.channels.get d) (hr : w.raised = s.raised) :
    s.Lands c t u k :=
  ⟨h.job, h.store.trans hs, h.link.trans hl, h.ports.trans hp, fun d hd => (h.others d hd).trans (hc d hd), h.raised.trans hr⟩

theorem State.ProbeEnded.lands {p : Position} {o : AttemptOutcome} (h : s.ProbeEnded c t j p o u k) : s.Lands c t u k :=
  (State.Moved.lands h).of_start rfl rfl rfl (get_set_others s c _) rfl

theorem State.FetchEnded.lands {p : Position} {o : AttemptOutcome} (h : s.FetchEnded c t j p o u k) : s.Lands c t u k := by
  unfold State.FetchEnded at h
  dsimp only at h
  split at h
  · obtain ⟨rfl, rfl⟩ := h
    exact ⟨withJob_job .., rfl, rfl, rfl, get_set_others s c _, rfl⟩
  · exact (State.Moved.lands h).of_start rfl rfl rfl (get_set_others s c _) rfl

theorem State.AttemptEnded.lands {p : Position} {o : AttemptOutcome} (h : s.AttemptEnded c t j p o u k) : s.Lands c t u k := by
  rcases h with ⟨-, -, h⟩ | ⟨-, -, h⟩
  · exact h.lands
  · exact h.lands

end Sys2Proof.Machine
end

section
/-! SUPPORT. What the shared operations of jobs, claims, hand-offs and completions make of a state, as an equation for each case
that the statements about commands meet. -/

namespace Sys2Proof.Machine

variable {s u v : State} {t : Target} {j k : Job} {c : Chan} {p : Port} {n : Nat} {e : SourceEntry} {data : List Byte}

/-! ### The job record -/

theorem updJob_eq (hj : s.job t = some j) (f : Job → Job) : s.updJob t f = s.withJob t (f j) := by
  have hj' : (s.jobs.get t).job = some j := hj
  simp [State.updJob, State.updSlot, State.withJob, hj']

theorem setJobState_same (hj : s.job t = some j) {x : JobState} (hx : j.state = x) : s.setJobState t x = s := by
  rw [State.setJobState, hj]
  exact if_pos hx

theorem setJobState_new (hj : s.job t = some j) {x : JobState} (hx : j.state ≠ x) :
    s.setJobState t x = { s.withJob t { j with state := x } with raised := .job t :: s.raised } := by
  rw [State.setJobState, hj]
  dsimp only
  rw [if_neg hx, updJob_eq hj]
  rfl

theorem finishJob_eq (hj : s.job t = some j) (x : JobState) (o : FinalOutcome) : s.finishJob t x o
    = { s.withJob t { j with state := x, final := some o, abortPending := false } with raised := .job t :: s.raised } := by
  rw [State.finishJob, updJob_eq hj]
  rfl

/-- R51, R71: an aborted job leaves its channel. -/
theorem abortJob_eq (hj : s.job t = some j) : s.abortJob c t
    = { State.withJob { s with channels := s.channels.set c (s.channels.get c).left } t
          { j with state := .aborted, final := some .aborted, abortPending := false } with raised := .job t :: s.raised } :=
  finishJob_eq (s := s.leaveChannel c) hj .aborted .aborted

theorem readsHost_eq (hj : s.job t = some j) (he : j.entry = some e) : s.readsHost t = decide (e.port = .host) := by
  simp [State.readsHost, hj, he]

/-- R127: the release on entry to STREAMING. -/
theorem startedLine_eq (s : State) (t : Target) : (if (s.record t).kind = .lane then s.releaseLine t else s)
    = { s with lines := s.lines.set t (s.startedLine t) } := by
  unfold State.startedLine
  split
  · rfl
  · rw [PerTarget.set_get_self]

/-! ### Claims (R72) -/

/-- The channel with the next claim of job `j` placed on a port, where one may be. -/
def Channel.claiming (x : Channel) (j : Job) (p : Port) : Channel :=
  if mayClaim j x then { x with claim := some ⟨p, x.issue⟩ } else x

/-- R72: the next claim, on a port that does not refuse. -/
theorem placeClaim_eq (hj : s.job t = some j) (he : j.entry = some e) (hr : s.refuses e.port = false) :
    s.placeClaim c t = { s with channels := s.channels.set c ((s.channels.get c).claiming j e.port) } := by
  rw [State.placeClaim, hj]
  dsimp only
  rw [he]
  dsimp only
  unfold Channel.claiming
  split
  · rw [hr]
    rfl
  · rw [PerChan.set_get_self]

/-! ### The hand-off (R79) -/

theorem handOff_stays {x : StreamParams} (hj : s.job t = some j) (hx : (s.channels.get c).params = some x)
    (h : (s.channels.get c).slots.any (·.isDelivering) = true ∨ heldBlock j.delivered (s.channels.get c).slots = none) :
    s.handOff c t = s := by
  unfold State.handOff
  dsimp only
  rw [hj, hx]
  dsimp only
  split
  · rename_i hc
    rw [h.resolve_left (by simpa using hc.2)]
  · rfl

theorem handOff_goes {x : StreamParams} {d : List Byte} (hj : s.job t = some j) (hx : (s.channels.get c).params = some x)
    (hs : j.state = .streaming) (hn : (s.channels.get c).slots.any (·.isDelivering) = false)
    (hd : heldBlock j.delivered (s.channels.get c).slots = some d) : s.handOff c t
      = (s.updChannel c fun y => { y with slots := setSlot j.delivered (.delivering j.delivered d) y.slots }).updLine t
          (·.take j.delivered (payloadOf x.length j.delivered d) (s.pins.trdy.get t) (s.record t)) := by
  unfold State.handOff
  dsimp only
  rw [hj, hx]
  dsimp only
  rw [if_pos ⟨hs, by simp [hn]⟩, hd]

/-! ### Completions (R74, R75, R77, R85) -/

theorem channelData_draining (hc : (s.channels.get c).running = some t) (hj : s.job t = some j) (hs : j.state = .draining) (b : Nat)
    (data : List Byte) : s.channelData c b data = (s.putSlot c b .free).drained c t := by
  rw [State.channelData, hc]
  dsimp only
  rw [hj]
  dsimp only
  rw [hs]

theorem channelFails_draining (hc : (s.channels.get c).running = some t) (hj : s.job t = some j) (hs : j.state = .draining) (b : Nat)
    (o : AttemptOutcome) : s.channelFails c b o = (s.putSlot c b .free).drained c t := by
  rw [State.channelFails, hc]
  dsimp only
  rw [hj]
  dsimp only
  rw [hs]

theorem channelData_streaming (hc : (s.channels.get c).running = some t) (hj : s.job t = some j) (hs : j.state = .streaming) (b : Nat)
    (data : List Byte) : s.channelData c b data = s.fetchData c t b data := by
  rw [State.channelData, hc]
  dsimp only
  rw [hj]
  dsimp only
  rw [hs]

theorem channelData_probing (hc : (s.channels.get c).running = some t) (hj : s.job t = some j) (hs : j.state = .probing) (b : Nat)
    (data : List Byte) : s.channelData c b data = s.probeData c t j data := by
  rw [State.channelData, hc]
  dsimp only
  rw [hj]
  dsimp only
  rw [hs]

/-- R75: a failed read of a job in an attempt frees its slot and ends the attempt. -/
theorem channelFails_attempt (hc : (s.channels.get c).running = some t) (hj : s.job t = some j)
    (hs : j.state = .probing ∨ j.state = .streaming) (b : Nat) (o : AttemptOutcome) :
    s.channelFails c b o = (s.putSlot c b .free).endAttempt c t o := by
  rw [State.channelFails, hc]
  dsimp only
  rw [hj]
  dsimp only
  rcases hs with hs | hs <;> rw [hs]

theorem State.AttemptEnded.state {q : Position} {o : AttemptOutcome} (h : s.AttemptEnded c t j q o u k) :
    j.state = .probing ∨ j.state = .streaming := by
  rcases h with ⟨h, -⟩ | ⟨h, -⟩
  · exact .inr h
  · exact .inl h

/-- R78, R81: a block of a fetch that passes both tests becomes HELD. -/
theorem fetchData_held {x : StreamParams} (hx : (s.channels.get c).params = some x) (b : Nat) (data : List Byte)
    (hh : b ≠ 0 ∨ sameHeader x data = true) (hw : s.wrongLength t x.length b data = false) :
    s.fetchData c t b data = (s.putSlot c b (.held b data)).handOff c t := by
  rw [State.fetchData, hx]
  dsimp only
  rw [if_neg (by rintro ⟨h1, h2⟩; rcases hh with hh | hh
                 · exact hh h1
                 · exact h2 hh), hw]
  rfl

/-- R78: a block 0 that is not the probed header ends the fetch with CHANGED. -/
theorem fetchData_changed {x : StreamParams} (hx : (s.channels.get c).params = some x) (data : List Byte)
    (hh : sameHeader x data = false) : s.fetchData c t 0 data = (s.putSlot c 0 .free).endFetch c t .changed := by
  rw [State.fetchData, hx]
  dsimp only
  rw [if_pos ⟨rfl, by simp [hh]⟩]

theorem sameHeader_iff (x : StreamParams) (data : List Byte) :
    sameHeader x data = true ↔ 32 ≤ data.length ∧ data.take 32 = x.header := by
  rw [sameHeader, Bool.and_eq_true, decide_eq_true_eq, decide_eq_true_eq]
  exact Iff.rfl

/-- R120: a device attempt has no block of a wrong length. -/
theorem wrongLength_device (hj : s.job t = some j) (he : j.entry = some e) (hp : e.port ≠ .host) (len b : Nat) (data : List Byte) :
    s.wrongLength t len b data = false := by
  simp [State.wrongLength, readsHost_eq hj he, hp]

theorem wrongLength_host (hj : s.job t = some j) (he : j.entry = some e) (hp : e.port = .host) (len b : Nat) (data : List Byte) :
    s.wrongLength t len b data = decide (data.length ≠ blockLength len b) := by
  simp [State.wrongLength, readsHost_eq hj he, hp]

/-- R85: a completion that does not end the drain. -/
theorem drained_more (h : s.draining c = true) : s.drained c t = s := if_pos h

theorem drained_aborted (hd : s.draining c = false) (hj : s.job t = some j) (ha : j.abortPending = true) :
    s.drained c t = s.abortJob c t := by
  rw [State.drained, if_neg (by simp [hd]), hj]
  exact if_pos ha

theorem drained_moves (hd : s.draining c = false) (hj : s.job t = some j) (ha : j.abortPending = false) :
    s.drained c t = s.moveOn c t := by
  rw [State.drained, if_neg (by simp [hd]), hj]
  exact if_neg (by simp [ha])

/-- R77, R40, R79, R72: an accepted FIRST probe of a block of the right length starts its fetch. -/
theorem acceptFirst_goes (hj : s.job t = some j) (hs : j.state = .probing) (he : j.entry = some e)
    (hr : s.refuses e.port = false) (hl : e.port = .host → data.length = blockLength (streamParams data).length 0)
    (hx : (s.channels.get c).slots = [.inFlight 0, .free, .free, .free]) :
    s.acceptFirst c t data = { State.withJob { s with
        channels := s.channels.set c (({ s.channels.get c with
          params := some (streamParams data), check := some 0xFFFFFFFF#32
          slots := [.delivering 0 data, .free, .free, .free] } : Channel).claiming
            { j with state := .streaming, phase := some .fetch, delivered := 0 } e.port)
        lines := s.lines.set t ((s.startedLine t).take 0 (payloadOf (streamParams data).length 0 data) (s.pins.trdy.get t)
          (s.record t)) } t { j with state := .streaming, phase := some .fetch, delivered := 0 }
      with raised := .job t :: s.raised } := by
  have step : ∀ s2 : State, s2 = { State.withJob { s with channels := s.channels.set c { s.channels.get c with
        params := some (streamParams data), check := some 0xFFFFFFFF#32 } } t
          { j with state := .streaming, phase := some .fetch, delivered := 0 } with raised := .job t :: s.raised } →
      (let s3 := if (s.record t).kind = .lane then s2.releaseLine t else s2
      if s3.wrongLength t (streamParams data).length 0 data then (s3.putSlot c 0 .free).endFetch c t .streamError
      else ((s3.putSlot c 0 (.held 0 data)).handOff c t).placeClaim c t) = { State.withJob { s with
        channels := s.channels.set c (({ s.channels.get c with
          params := some (streamParams data), check := some 0xFFFFFFFF#32
          slots := [.delivering 0 data, .free, .free, .free] } : Channel).claiming
            { j with state := .streaming, phase := some .fetch, delivered := 0 } e.port)
        lines := s.lines.set t ((s.startedLine t).take 0 (payloadOf (streamParams data).length 0 data) (s.pins.trdy.get t)
          (s.record t)) } t { j with state := .streaming, phase := some .fetch, delivered := 0 }
      with raised := .job t :: s.raised } := by
    intro s2 h2
    have h3 : (if (s.record t).kind = .lane then s2.releaseLine t else s2)
        = { s2 with lines := s2.lines.set t (s2.startedLine t) } := by
      rw [show s.record t = s2.record t by rw [h2]; rfl]
      exact startedLine_eq s2 t
    have j3 : ({ s2 with lines := s2.lines.set t (s2.startedLine t) } : State).job t
        = some { j with state := .streaming, phase := some .fetch, delivered := 0 } := by
      rw [h2]; exact withJob_job ..
    have hw : ({ s2 with lines := s2.lines.set t (s2.startedLine t) } : State).wrongLength t (streamParams data).length 0 data
        = false := by
      by_cases hp : e.port = .host
      · rw [wrongLength_host j3 he hp]
        simpa using hl hp
      · exact wrongLength_device j3 he hp ..
    dsimp only
    rw [h3, hw, if_neg (by simp)]
    rw [handOff_goes (x := streamParams data) (d := data) (by exact j3) (by simp [State.putSlot, State.updChannel, State.withJob, h2]) rfl
      (by simp [State.putSlot, State.updChannel, State.withJob, hx, h2, setSlot, Slot.block, Slot.isDelivering])
      (by simp [State.putSlot, State.updChannel, State.withJob, hx, h2, setSlot, Slot.block, heldBlock])]
    rw [placeClaim_eq (j := { j with state := .streaming, phase := some .fetch, delivered := 0 }) (e := e) (by exact j3) he (by rw [h2]; exact hr)]
    subst h2
    simp [State.putSlot, State.updChannel, State.withJob, hx, setSlot, Slot.block]
    rfl
  unfold State.acceptFirst
  refine step _ ?_
  dsimp only
  rw [updJob_eq (s := s.updChannel c _) hj, setJobState_new (withJob_job ..) (by simp [hs]), withJob_withJob]
  rfl

/-! ### Reads of a device port (R93, R97, R103) -/

theorem writerTakes_none (h : s.store.save = none) : s.writerTakes = s := by rw [State.writerTakes, h]

/-- The completion of a read, where no save waits for it. -/
theorem completeRead_found {x : Read} {f : Reader → State → State} (hp : p = .card ∨ (n = 0 ∧ (p = .flash0 ∨ p = .flash1)))
    (hx : (s.ports.get p).reads[n]? = some x)
    (hf : f x.reader { s with ports := s.ports.set p { s.ports.get p with reads := (s.ports.get p).reads.eraseIdx n } } = v)
    (hv : p = .flash0 → v.store.save = none) : s.completeRead p n f = v := by
  rw [State.completeRead, readAt_eq hp hx]
  dsimp only
  have hf' : f x.reader (s.updPort p fun y => { y with reads := y.reads.eraseIdx n }) = v := hf
  rw [hf']
  split
  · rename_i h
    exact writerTakes_none (hv h)
  · rfl

end Sys2Proof.Machine
end

section
/-! SUPPORT. Completions of reads of the flash and card ports (O13, O14). -/

namespace Sys2Proof.Machine

variable {s u v : State} {t : Target} {j k : Job} {c : Chan} {p : Port} {n b a : Nat} {e : SourceEntry} {data : List Byte}
  {l : List ReportId}

/-- R93, R97: the state in which the `n`-th outstanding read of a port has left it, in an event that has raised no report. -/
def State.withoutRead (s : State) (p : Port) (n : Nat) : State := { s with
  ports := s.ports.set p { s.ports.get p with reads := (s.ports.get p).reads.eraseIdx n }
  raised := [] }

theorem exec_readComplete (hd : data.length = 128) :
    exec (.readComplete p n data) s = happens (·.completeRead p n (State.handData p data)) s := by
  change happens (fun s => if data.length = Config.blockBytes then s.completeRead p n (State.handData p data) else s) s = _
  simp only [Config.blockBytes, hd, if_true]

theorem exec_readFails {i : Instr} (hi : i ∈ [Instr.readDeviceError p n, .readTimerExpiry p n]) :
    exec i s = happens (·.completeRead p n (State.handError p)) s := by
  simp only [List.mem_cons, List.not_mem_nil, or_false] at hi
  rcases hi with rfl | rfl <;> rfl

/-- R74: what the completion of a channel's read does, where no save waits for it. -/
theorem completeRead_data (hp : p = .card ∨ (n = 0 ∧ (p = .flash0 ∨ p = .flash1)))
    (hx : (s.ports.get p).reads[n]? = some ⟨.chan c b, a⟩) (hf : (s.withoutRead p n).channelData c b data = v)
    (hv : p = .flash0 → v.store.save = none) :
    State.completeRead { s with raised := [] } p n (State.handData p data) = v :=
  completeRead_found hp hx hf hv

/-- R75: what the failure of a channel's read does, where no save waits for it. -/
theorem completeRead_error (hp : p = .card ∨ (n = 0 ∧ (p = .flash0 ∨ p = .flash1)))
    (hx : (s.ports.get p).reads[n]? = some ⟨.chan c b, a⟩) (hf : (s.withoutRead p n).channelFails c b .readError = v)
    (hv : p = .flash0 → v.store.save = none) :
    State.completeRead { s with raised := [] } p n (State.handError p) = v :=
  completeRead_found hp hx hf hv

/-- R85: the three completions of a read of a DRAINING job do the same. -/
theorem drained_completes {i : Instr} (hp : p = .card ∨ (n = 0 ∧ (p = .flash0 ∨ p = .flash1)))
    (hx : (s.ports.get p).reads[n]? = some ⟨.chan c b, a⟩) (hc : (s.channels.get c).running = some t) (hj : s.job t = some j)
    (hs : j.state = .draining) (hd : data.length = 128) (hi : i ∈ [Instr.readComplete p n data, .readDeviceError p n, .readTimerExpiry p n])
    (hf : ((s.withoutRead p n).putSlot c b .free).drained c t = v) (hv : p = .flash0 → v.store.save = none) :
    ∃ f, exec i s = happens f s ∧ f { s with raised := [] } = v := by
  rcases List.mem_cons.1 hi with rfl | hi
  · exact ⟨_, exec_readComplete hd, completeRead_data hp hx ((channelData_draining (s := s.withoutRead p n) hc hj hs b data).trans hf) hv⟩
  · exact ⟨_, exec_readFails hi, completeRead_error hp hx ((channelFails_draining (s := s.withoutRead p n) hc hj hs b _).trans hf) hv⟩

theorem draining_putSlot (s : State) (c : Chan) (b : Nat) (x : Slot) :
    (s.putSlot c b x).draining c = (setSlot b x (s.channels.get c).slots).any (·.isInFlight) := by
  simp [State.draining, State.putSlot]

/-- R74, R78, R79: a block of a fetch whose length and header pass becomes HELD, and the block whose turn it is goes to an idle
lane. -/
theorem fetched_block {x : StreamParams} (hj : s.job t = some j) (hs : j.state = .streaming)
    (hx : (s.channels.get c).params = some x) (hh : b ≠ 0 ∨ sameHeader x data = true)
    (hw : s.wrongLength t x.length b data = false) :
    let slots := setSlot b (.held b data) (s.channels.get c).slots
    (slots.any (·.isDelivering) = true ∨ heldBlock j.delivered slots = none → s.fetchData c t b data
      = { s with channels := s.channels.set c { s.channels.get c with slots := slots } })
    ∧ (∀ d, slots.any (·.isDelivering) = false → heldBlock j.delivered slots = some d → s.fetchData c t b data = { s with
        channels := s.channels.set c { s.channels.get c with slots := setSlot j.delivered (.delivering j.delivered d) slots }
        lines := s.lines.set t ((s.lines.get t).take j.delivered (payloadOf x.length j.delivered d) (s.pins.trdy.get t)
          (s.record t)) }) := by
  intro slots
  rw [fetchData_held hx b data hh hw]
  have hx' : ((s.putSlot c b (.held b data)).channels.get c).params = some x := by simpa [State.putSlot] using hx
  have hsl : ((s.putSlot c b (.held b data)).channels.get c).slots = slots := by simp [State.putSlot, slots]
  refine ⟨fun h => handOff_stays (by exact hj) hx' (by rw [hsl]; exact h), fun d hn hd => ?_⟩
  rw [handOff_goes (by exact hj) hx' hs (by rw [hsl]; exact hn) (by rw [hsl]; exact hd)]
  simp [State.putSlot, State.updChannel, State.updLine, slots, State.record]

/-- Settles O13: the block is held, and the hand-off made, by `fetched_block`. -/
theorem fetchedBlockIsHeld : Obligations.FetchedBlockIsHeld := by
  intro s p n b a c t j e x data hr hp hread hsave hc hj hs he hport hx hh hd slots s1
  have hh' : b ≠ 0 ∨ sameHeader x data = true := hh.imp id fun h => (sameHeader_iff x data).2 ⟨by omega, h⟩
  obtain ⟨stays, goes⟩ := fetched_block (s := s1) (t := t) (c := c) (b := b) (data := data) hj hs hx hh'
    (wrongLength_device hj he hport _ _ _)
  rw [exec_readComplete hd]
  refine ⟨fun h => ?_, fun d hn hg => ?_⟩
  · exact happens_quiet _ _ _ hr (completeRead_data hp hread ((channelData_streaming (s := s1) hc hj hs b data).trans (stays h)) hsave) rfl
  · exact happens_quiet _ _ _ hr (completeRead_data hp hread ((channelData_streaming (s := s1) hc hj hs b data).trans (goes d hn hg)) hsave) rfl

/-- Settles O14: a completion that leaves reads in flight frees its slot, and the last one aborts the job. -/
theorem drainEndsAborted : Obligations.DrainEndsAborted := by
  intro s p n b a c t j data hr hp hread hsave hc hj hs ha hd slots s1 j1 t1
  refine ⟨fun hmore i hi => ?_, fun hlast i hi => ?_⟩
  · obtain ⟨f, he, hf⟩ := drained_completes hp hread hc hj hs hd hi (drained_more ((draining_putSlot ..).trans hmore)) hsave
    rw [he]
    exact happens_quiet _ _ _ hr hf rfl
  · have hab := (drained_aborted (s := (s.withoutRead p n).putSlot c b .free) ((draining_putSlot ..).trans hlast) hj ha).trans
      (abortJob_eq hj)
    obtain ⟨f, he, hf⟩ := drained_completes hp hread hc hj hs hd hi hab hsave
    rw [he]
    refine (happens_job (u := State.withJob { s1 with
      channels := s.channels.set c ({ s.channels.get c with slots := slots } : Channel).left } t j1) hr (hf.trans ?_) rfl
      (withJob_job ..) (l := [.job t]) (by simp)).trans rfl
    simp [State.putSlot, State.updChannel, s1, slots, j1, State.withoutRead]

end Sys2Proof.Machine
end

section
/-! SUPPORT. Reads of the flash and card ports that end an attempt, a probe or a drain (O12), and those of the PEEK path. -/

namespace Sys2Proof.Machine

variable {s u v w : State} {t : Target} {j k : Job} {c : Chan} {p : Port} {n b a : Nat} {e : SourceEntry} {data : List Byte}
  {q : Position} {o : AttemptOutcome} {rs : List ReportId} {f : State → State}

/-! ### States reached with reports raised -/

/-- `v` is `u` with the reports of `rs`, and no others, raised. -/
def State.Reporting (v u : State) (rs : List ReportId) : Prop := ∃ l, v = { u with raised := l } ∧ ∀ x, x ∈ l ↔ x ∈ rs

theorem State.Reporting.store (h : v.Reporting u rs) : v.store = u.store := by
  obtain ⟨l, rfl, -⟩ := h
  rfl

theorem happens_reporting_job (h : s.pins.reset = false) (hf : (f { s with raised := [] }).Reporting u [.job t])
    (hu : u.raised = []) (hj : u.job t = some k) : happens f s = .next (u.withJobReport t k) := by
  obtain ⟨l, e, hl⟩ := hf
  exact happens_job h e hu hj (by simpa using hl)

theorem happensWantFirst_reporting_job (h : s.pins.reset = false) (hf : (f { s with raised := [] }).Reporting u [.job t])
    (hu : u.raised = []) (hj : u.job t = some k) : happensWantFirst f s = .next (u.withJobReport t k) := by
  obtain ⟨l, e, hl⟩ := hf
  exact happensWantFirst_job h e hu hj (by simpa using hl)

theorem happens_reporting_job_want (h : s.pins.reset = false) (hf : (f { s with raised := [] }).Reporting u [.job t, .want t])
    (hu : u.raised = []) (hj : u.job t = some k) :
    happens f s = .next ((u.withJobReport t k).withWantReport t k.tag) := by
  obtain ⟨l, e, hl⟩ := hf
  exact happens_job_want h e hu hj (by simpa using hl)

theorem happens_reporting_part_job (h : s.pins.reset = false) (hf : (f { s with raised := [] }).Reporting u [.part, .job t])
    (hu : u.raised = []) (hj : u.job t = some k) : happens f s = .next (u.withPartReport.withJobReport t k) := by
  obtain ⟨l, e, hl⟩ := hf
  exact happens_part_job h e hu hj (by simpa using hl)

/-- A list that holds `r`, put before others that only repeat it, has the members of those others with `r`. -/
theorem raised_beside {r : ReportId} {l m : List ReportId} (hl : ∀ x ∈ l, x = r) (hm : r ∈ l) (x : ReportId) :
    x ∈ l ++ m ↔ x ∈ r :: m := by
  rw [List.mem_append, List.mem_cons]
  exact ⟨fun h => h.imp (hl x) id, fun h => h.imp (fun e => by rwa [e]) id⟩

/-- R39, R42, R75: the end of a probe raises a JOB report. -/
theorem endProbe_reporting (hj : s.job t = some j) (hp : j.position = some q) (hph : j.phase = some .probe)
    (h : s.ProbeEnded c t j q o u k) : (s.endProbe c t o).Reporting u (.job t :: s.raised) := by
  obtain ⟨l, e, hl, hm⟩ := endProbe_ended s c t j q o u k hj hp hph h
  exact ⟨_, e, raised_beside hl hm⟩

/-- R84, R121: the end of a fetch raises a JOB report, and a WANT report where it cancels a HOST read. -/
theorem endFetch_reporting (hj : s.job t = some j) (hp : j.position = some q) (hph : j.phase = some .fetch)
    (h : s.FetchEnded c t j q o u k) : (s.endFetch c t o).Reporting u
      (.job t :: ((if s.wanted.any (·.target = t) then [ReportId.want t] else []) ++ s.raised)) := by
  obtain ⟨l, e, hl, hm⟩ := endFetch_ended s c t j q o u k hj hp hph h
  exact ⟨_, e, fun x => by rw [List.append_assoc]; exact raised_beside hl hm x⟩

/-- R84: the end of a fetch with no wanted block. -/
theorem endFetch_reporting_job (hj : s.job t = some j) (hp : j.position = some q) (hph : j.phase = some .fetch)
    (h : s.FetchEnded c t j q o u k) (hw : s.wanted.any (·.target = t) = false) :
    (s.endFetch c t o).Reporting u (.job t :: s.raised) := by
  have := endFetch_reporting hj hp hph h
  rwa [hw] at this

/-- R75, R84: the end of an attempt with no wanted block. -/
theorem endAttempt_reporting (hj : s.job t = some j) (hp : j.position = some q) (h : s.AttemptEnded c t j q o u k)
    (hw : s.wanted.any (·.target = t) = false) : (s.endAttempt c t o).Reporting u (.job t :: s.raised) := by
  unfold State.endAttempt
  rw [hj]
  dsimp only
  rcases h with ⟨hs, hph, h⟩ | ⟨hs, hph, h⟩
  · rw [hs]
    exact endFetch_reporting_job hj hp hph h hw
  · rw [hs]
    exact endProbe_reporting hj hp hph h

/-- R28: a search that moves on raises a JOB report where the job's state changes. -/
theorem moveOn_reporting (hj : s.job t = some j) (h : s.Moved c t j u k) (hs : k.state ≠ j.state ∨ k.state ≠ .probing) :
    (s.moveOn c t).Reporting u (.job t :: s.raised) := by
  obtain ⟨l, e, hl, hn⟩ := moveOn_moved s c t j u k hj h
  obtain ⟨x, m, rfl⟩ := List.exists_cons_of_ne_nil (hn.2 hs)
  exact ⟨_, e, raised_beside hl (by rw [hl x (by simp)]; simp)⟩

theorem moveOn_silent (hj : s.job t = some j) (h : s.Moved c t j u k) (hs : k.state = j.state) (hp : k.state = .probing) :
    s.moveOn c t = { u with raised := s.raised } := by
  obtain ⟨l, e, -, hn⟩ := moveOn_moved s c t j u k hj h
  have hnil : l = [] := by
    by_contra hl
    exact (hn.1 hl).elim (· hs) (· hp)
  rw [e, hnil, List.nil_append]

/-! ### Completions of a channel's read -/

/-- R93, R74, R75: the completion of a read, where no save waits for it, that raises a JOB report. -/
theorem completion_reports_job {f : Reader → State → State} {x : Read} (hr : s.pins.reset = false)
    (hp : p = .card ∨ (n = 0 ∧ (p = .flash0 ∨ p = .flash1))) (hx : (s.ports.get p).reads[n]? = some x)
    (hsave : p = .flash0 → s.store.save = none) (hl : w.Lands c t u k) (hw : w.store = s.store) (hwr : w.raised = [])
    (hf : (f x.reader (s.withoutRead p n)).Reporting u [.job t]) :
    happens (·.completeRead p n f) s = .next (u.withJobReport t k) := by
  refine happens_reporting_job hr ?_ (hl.raised.trans hwr) hl.job
  show (State.completeRead { s with raised := [] } p n f).Reporting u [.job t]
  rw [completeRead_found (s := { s with raised := [] }) (v := f x.reader (s.withoutRead p n)) hp hx rfl
    fun h => (congrArg _ ((hf.store.trans hl.store).trans hw)).trans (hsave h)]
  exact hf

/-- R75, R84: a failed read of a channel ends the attempt. -/
theorem readErrorEndsAttempt : Claims.ReadErrorEndsAttempt := by
  intro s p n b a c t j e q u k hr hp hread hsave hc hj he hport hw hq s1 h i hi
  rw [exec_readFails hi]
  refine completion_reports_job hr hp hread hsave h.lands rfl rfl ?_
  show ((s.withoutRead p n).channelFails c b .readError).Reporting u [.job t]
  rw [channelFails_attempt (s := s.withoutRead p n) hc hj h.state]
  exact endAttempt_reporting (s := (s.withoutRead p n).putSlot c b .free) hj hq h hw

/-- R44, R78: a re-read block 0 that is not the probed header. -/
theorem changedHeaderEndsFetch : Claims.ChangedHeaderEndsFetch := by
  intro s p n a c t j e x q data u k hr hp hread hsave hc hj hs he hport hw hx hd hh hq hph h
  have hne : sameHeader x data = false := by
    rw [← Bool.not_eq_true, sameHeader_iff]
    exact fun h => hh h.2
  rw [exec_readComplete hd]
  refine completion_reports_job hr hp hread hsave h.lands rfl rfl ?_
  show ((s.withoutRead p n).channelData c 0 data).Reporting u [.job t]
  rw [channelData_streaming (s := s.withoutRead p n) hc hj hs, fetchData_changed (s := s.withoutRead p n) hx data hne]
  exact endFetch_reporting_job (s := (s.withoutRead p n).putSlot c 0 .free) hj hq hph h hw

/-- R85: the completions of a drain without abort pending. -/
theorem drainMovesOn : Claims.DrainMovesOn := by
  intro s p n b a c t j data hr hp hread hsave hc hj hs ha hd slots s1
  refine ⟨fun hmore i hi => ?_, fun u k hlast h i hi => ?_⟩
  · obtain ⟨f, he, hf⟩ := drained_completes hp hread hc hj hs hd hi (drained_more ((draining_putSlot ..).trans hmore)) hsave
    rw [he]
    exact happens_quiet _ _ _ hr hf rfl
  · have hm := drained_moves (s := (s.withoutRead p n).putSlot c b .free) ((draining_putSlot ..).trans hlast) hj ha
    have hne : k.state ≠ j.state ∨ k.state ≠ .probing := by
      by_cases hk : k.state = .probing
      · exact .inl (by simp [hk, hs])
      · exact .inr hk
    have hrep := moveOn_reporting (s := (s.withoutRead p n).putSlot c b .free) hj h hne
    rw [← hm] at hrep
    obtain ⟨f, he, hf⟩ := drained_completes hp hread hc hj hs hd hi rfl
      (fun hp => by rw [hrep.store, h.lands.store]; exact hsave hp)
    rw [he]
    exact happens_reporting_job hr (by rw [hf]; exact hrep) h.lands.raised h.lands.job

end Sys2Proof.Machine
end

section
/-! SUPPORT. What the block of a probe does, once its header is judged (R77, O12). -/

namespace Sys2Proof.Machine

variable {s u : State} {t : Target} {j k : Job} {c : Chan} {data : List Byte} {q : Position} {o : AttemptOutcome}

/-- R39, R42, R77: the state with the probe's slot freed; the probe has no other block. -/
def State.probeFreed (s : State) (c : Chan) : State :=
  { s with channels := s.channels.set c { s.channels.get c with slots := [.free, .free, .free, .free] } }

theorem putSlot_probeFreed (hx : (s.channels.get c).slots = [.inFlight 0, .free, .free, .free]) :
    s.putSlot c 0 .free = s.probeFreed c := by
  simp [State.putSlot, State.updChannel, State.probeFreed, hx, setSlot, Slot.block]

/-- R77, R39, R42: a refused header ends the probe. -/
theorem probeData_refused (hv : judge data (s.record t) j.relaxed = some o)
    (hx : (s.channels.get c).slots = [.inFlight 0, .free, .free, .free]) :
    s.probeData c t j data = (s.probeFreed c).endProbe c t o := by
  rw [State.probeData, hv]
  dsimp only
  rw [putSlot_probeFreed hx]

theorem probeData_first (hv : judge data (s.record t) j.relaxed = none) (hm : (s.record t).mode = .first) :
    s.probeData c t j data = s.acceptFirst c t data := by
  rw [State.probeData, hv]
  dsimp only
  rw [hm]

/-- R43: the job with the candidate entry of an accepted sweep probe at position `q`. -/
def Job.withCandidate (j : Job) (q : Position) (data : List Byte) : Job :=
  { j with candidates := insertCandidate ⟨q, (streamParams data).version, (streamParams data).length, data.take 32⟩ j.candidates }

/-- R42, R43, R77: an accepted sweep probe moves on with its candidate entered. -/
theorem probeData_newest (hv : judge data (s.record t) j.relaxed = none) (hm : (s.record t).mode = .newest)
    (hx : (s.channels.get c).slots = [.inFlight 0, .free, .free, .free]) (hj : s.job t = some j) (hq : j.position = some q) :
    s.probeData c t j data = ((s.probeFreed c).withJob t (j.withCandidate q data)).moveOn c t := by
  rw [State.probeData, hv]
  dsimp only
  rw [hm]
  dsimp only
  rw [State.acceptNewest, putSlot_probeFreed hx, hq]
  exact congrArg (State.moveOn · c t) (updJob_eq (s := s.probeFreed c) hj _)

/-- The relation does not read the job record that stands. -/
theorem State.Moved.overJob (h : s.Moved c t j u k) (z : Job) : (s.withJob t z).Moved c t j u k := by
  have h' := h.written z s.raised
  have e : ({ u with raised := s.raised } : State) = u := by rw [← h.lands.raised]
  rw [e] at h'
  exact h'

theorem noSkips (s : State) : s.Skips [] := fun _ h => absurd h List.not_mem_nil

/-- R37: the job that fails at its pass limit. -/
def Job.outOfPasses (j : Job) : Job := { j with state := .failed, final := some .noImage, abortPending := false }

/-- R41, R37: in FIRST mode the search of the last position in the last pass leaves the job FAILED. -/
theorem State.Moved.failed (s : State) (c : Chan) {t : Target} {j : Job} (hm : (s.record t).mode = .first) (hr : j.rest = [])
    (hl : j.passLimit ≠ 0) (hle : j.passLimit ≤ j.pass) : s.Moved c t j
      (State.withJob { s with channels := s.channels.set c (s.channels.get c).left } t j.outOfPasses) j.outOfPasses := by
  have hp : s.passedJob t j = j := by
    rw [State.passedJob, hm]
  refine .inr (.inr ⟨?_, ?_⟩)
  · rw [State.PassOver, hm]
    dsimp only
    rw [hr]
    exact noSkips s
  · rw [hp, State.PassEnded]
    dsimp only
    rw [if_pos ⟨hl, hle⟩]
    exact ⟨rfl, rfl⟩

/-- R42, R43: what the move after an accepted sweep probe reaches. -/
theorem probeData_moved (hv : judge data (s.record t) j.relaxed = none) (hm : (s.record t).mode = .newest)
    (hx : (s.channels.get c).slots = [.inFlight 0, .free, .free, .free]) (hj : s.job t = some j) (hq : j.position = some q)
    (hs : j.state = .probing) (h : (s.probeFreed c).Moved c t (j.withCandidate q data) u k) :
    (k.state ≠ .probing → (s.probeData c t j data).Reporting u (.job t :: s.raised))
    ∧ (k.state = .probing → s.probeData c t j data = u) := by
  have h' := h.overJob (j.withCandidate q data)
  rw [probeData_newest hv hm hx hj hq]
  refine ⟨fun hk => moveOn_reporting (withJob_job ..) h' (.inr hk), fun hk => ?_⟩
  rw [moveOn_silent (withJob_job ..) h' (hk.trans hs.symm) hk]
  exact congrArg (fun l => ({ u with raised := l } : State)) h.lands.raised.symm

/-- R98: a read that leaves its port does not make it refuse. -/
theorem withoutRead_refuses (s : State) (p : Port) (n : Nat) (r : Port) : (s.withoutRead p n).refuses r = s.refuses r := by
  rw [State.refuses, State.refuses, State.withoutRead]
  simp only [PerPort.get_set]
  split
  · rename_i h
    rw [h]
  · rfl

/-! ### A probe of the flash and card ports -/

section
variable {p : Port} {n a : Nat} (hr : s.pins.reset = false) (hp : p = .card ∨ (n = 0 ∧ (p = .flash0 ∨ p = .flash1)))
  (hread : (s.ports.get p).reads[n]? = some ⟨.chan c 0, a⟩) (hsave : p = .flash0 → s.store.save = none)
  (hc : (s.channels.get c).running = some t) (hx : (s.channels.get c).slots = [.inFlight 0, .free, .free, .free])
  (hj : s.job t = some j) (hs : j.state = .probing) (hd : data.length = 128)
include hr hp hread hsave hc hx hj hs hd

theorem refused_probe_read (hq : j.position = some q) (hph : j.phase = some .probe)
    (hv : judge data (s.record t) j.relaxed = some o) (h : ((s.withoutRead p n).probeFreed c).ProbeEnded c t j q o u k) :
    exec (.readComplete p n data) s = .next (u.withJobReport t k) := by
  rw [exec_readComplete hd]
  refine completion_reports_job hr hp hread hsave h.lands rfl rfl ?_
  show ((s.withoutRead p n).channelData c 0 data).Reporting u [.job t]
  rw [channelData_probing (s := s.withoutRead p n) hc hj hs, probeData_refused (s := s.withoutRead p n) hv hx]
  exact endProbe_reporting (s := (s.withoutRead p n).probeFreed c) hj hq hph h

theorem accepted_sweep_read (hq : j.position = some q) (hv : judge data (s.record t) j.relaxed = none)
    (hm : (s.record t).mode = .newest) (h : ((s.withoutRead p n).probeFreed c).Moved c t (j.withCandidate q data) u k) :
    exec (.readComplete p n data) s = .next (if k.state = .probing then u else u.withJobReport t k) := by
  obtain ⟨reports, silent⟩ := probeData_moved (s := s.withoutRead p n) hv hm hx hj hq hs h
  rw [exec_readComplete hd]
  split
  · rename_i hk
    exact happens_quiet _ _ _ hr
      (completeRead_data hp hread ((channelData_probing (s := s.withoutRead p n) hc hj hs 0 data).trans (silent hk))
        fun hp => (congrArg _ h.lands.store).trans (hsave hp)) h.lands.raised
  · rename_i hk
    refine completion_reports_job hr hp hread hsave h.lands rfl rfl ?_
    show ((s.withoutRead p n).channelData c 0 data).Reporting u [.job t]
    rw [channelData_probing (s := s.withoutRead p n) hc hj hs]
    exact reports hk

theorem accepted_first_read {e : SourceEntry} (he : j.entry = some e) (hport : e.port ≠ .host) (href : s.refuses e.port = false)
    (hv : judge data (s.record t) j.relaxed = none) (hm : (s.record t).mode = .first) :
    let j1 := { j with state := .streaming, phase := some .fetch, delivered := 0 }
    exec (.readComplete p n data) s = .next ((State.withJob { s.withoutRead p n with
        channels := s.channels.set c (({ s.channels.get c with
          params := some (streamParams data), check := some 0xFFFFFFFF#32
          slots := [.delivering 0 data, .free, .free, .free] } : Channel).claiming j1 e.port)
        lines := s.lines.set t ((s.startedLine t).take 0 (payloadOf (streamParams data).length 0 data) (s.pins.trdy.get t)
          (s.record t)) } t j1).withJobReport t j1) := by
  intro j1
  have go := (probeData_first (c := c) (s := s.withoutRead p n) hv hm).trans
    (acceptFirst_goes (s := s.withoutRead p n) hj hs he ((withoutRead_refuses ..).trans href) (fun h => absurd h hport) hx)
  rw [exec_readComplete hd]
  exact happens_job hr (completeRead_data hp hread ((channelData_probing (s := s.withoutRead p n) hc hj hs 0 data).trans go) hsave)
    rfl (withJob_job ..) (by simp [State.withoutRead])

end

/-- Settles O12: the relational clauses are those of the lemmas above, and each of the others is a case of one of them. -/
theorem probeIsJudged : Obligations.ProbeIsJudged := by
  intro s p n a c t j e q data hr hp hread hsave hc hx hcl hj hs he hport href hq hph hd verdict x s1 released started claims
  have ok : ∀ r, (s.withoutRead p n).refuses r = s.refuses r := withoutRead_refuses s p n
  refine ⟨?_, ?_, ?_, ?_, ?_⟩
  · intro hv hm
    exact accepted_first_read hr hp hread hsave hc hx hj hs hd he hport href hv hm
  · intro o hv hm j1
    refine ⟨fun r rs hrest hen hok => ?_, fun hrest hl hle => ?_⟩
    · refine refused_probe_read hr hp hread hsave hc hx hj hs hd hq hph hv
        (.inl ⟨[], r, rs, .inl hm, hrest, noSkips _, hen, (ok _).trans hok, ?_, ?_⟩)
      · simp [started, Job.attempting, Job.logged, j1, hs]; rfl
      · simp [State.probeFreed, State.withoutRead, claims, Channel.attempting, started, s1]; rfl
    · refine (refused_probe_read hr hp hread hsave hc hx hj hs hd hq hph hv (.failed _ _ hm hrest hl hle)).trans ?_
      simp [State.probeFreed, State.withoutRead, s1, Channel.left, hcl]
      rfl
  · intro hv hm j1
    refine ⟨fun r rs hrest hen hok => ?_, fun best more hrest hcand hen hok => ?_⟩
    · refine (accepted_sweep_read hr hp hread hsave hc hx hj hs hd hq hv hm
        (.inl ⟨[], r, rs, .inr (by simp [Job.withCandidate, hph]), hrest, noSkips _, hen, (ok _).trans hok, rfl, rfl⟩)).trans ?_
      simp [State.probeFreed, State.withoutRead, claims, Channel.attempting, started, s1, Job.withCandidate, Job.attempting, hs, j1]
      rfl
    · refine (accepted_sweep_read hr hp hread hsave hc hx hj hs hd hq hv hm (.inr (.inl ⟨[], best, more, hm,
        .inr (by rw [show (j.withCandidate q data).rest = [] from hrest]; exact noSkips _), hcand, noSkips _, hen, (ok _).trans hok, rfl, rfl⟩))).trans ?_
      simp [State.probeFreed, State.withoutRead, claims, Channel.attempting, started, s1, Job.withCandidate, Job.attempting, hs]
      rw [← hcand]
      rfl
  · exact fun o u v hv h => refused_probe_read hr hp hread hsave hc hx hj hs hd hq hph hv h
  · exact fun u v hv hm h => accepted_sweep_read hr hp hread hsave hc hx hj hs hd hq hv hm h

end Sys2Proof.Machine
end

section
/-! SUPPORT. Grants (R73, R94, R101, R102, R113), and the answers to a PEEK and a RESCAN in service (R107 to R109). -/

namespace Sys2Proof.Machine

variable {s u v : State} {t : Target} {j k : Job} {c : Chan} {p : Port} {n b a : Nat} {e : SourceEntry} {data : List Byte}
  {q : Position} {r : Request} {st : Status}

/-! ### Replies -/

theorem reply_eq (s : State) (r : Request) (st : Status) (data : List Byte) :
    s.reply r st data = { s.served r st data with raised := s.raised } := by
  simp [State.reply, State.updLink, respond_eq, State.served, State.answered]

theorem reply_served (h : s.raised = []) : s.reply r st data = s.served r st data := by
  rw [reply_eq, h]
  rfl

theorem replyPeek_eq (h : s.link.handler = .serving r (.peek p a)) (st : Status) (data : List Byte) :
    s.replyPeek p st data = s.reply r st (if st = .ok then portCode p :: (le 4 a ++ data) else []) := by
  rw [State.replyPeek, h]
  exact if_pos rfl

theorem replyRescan_eq (h : s.link.handler = .serving r (.rescan p)) (st : Status) : s.replyRescan p st
    = s.reply r st
        (if st = .ok then portCode p :: portStateCode (s.ports.get p).state :: le 4 (s.ports.get p).capacity else []) := by
  rw [State.replyRescan, h]
  exact if_pos rfl

/-! ### Grants -/

/-- R73, R102: the state in which the claim of channel `c` for block `k` has been granted by port `p`. -/
def State.grantedTo (s : State) (p : Port) (c : Chan) (k : Nat) : State := { s with
  channels := s.channels.set c ((s.channels.get c).granted k)
  ports := s.ports.set p { s.ports.get p with lastGrantee := c } }

theorem grantedTo_refuses (s : State) (p : Port) (c : Chan) (k : Nat) (r : Port) : (s.grantedTo p c k).refuses r = s.refuses r := by
  rw [State.refuses, State.refuses, State.grantedTo]
  simp only [PerPort.get_set]
  split
  · rename_i h
    rw [h]
  · rfl

theorem ready_refuses (h : (s.ports.get p).state = .ready) : s.refuses p = false := by
  rw [State.refuses, h]
  rfl

theorem grantPort_channel (hm : s.mayGrant p = true) (hg : s.grantee p = some c) : s.grantPort p = s.grantChannel p c := by
  rw [State.grantPort, if_pos hm, hg]

/-- R101, R103: a READY port with credit left may grant, FLASH0 only where no save claims it. -/
theorem mayGrant_of (hs : (s.ports.get p).state = .ready) (hsave : p = .flash0 → s.store.save = none)
    (hl : s.outstanding p < s.settings.limits.get p) : s.mayGrant p = true :=
  (mayGrant_iff s p).2 ⟨hs, fun h => by rw [State.writerClaims, hsave h]; rfl, hl⟩

theorem outstanding_device (hp : p ≠ .host) : s.outstanding p = (s.ports.get p).reads.length := by
  cases p with
  | flash0 | flash1 | card => rfl
  | host => exact absurd rfl hp

section
variable (hc : (s.channels.get c).running = some t) (hcl : (s.channels.get c).claim = some ⟨p, b⟩) (hj : s.job t = some j)
  (he : j.entry = some e)
include hc hcl hj he

/-- R94: a grant for a block at or beyond the capacity completes at once. -/
theorem grantChannel_beyond (hp : p ≠ .host) (hcap : (s.ports.get p).capacity ≤ e.base + b) :
    s.grantChannel p c = (s.grantedTo p c b).channelFails c b .readError := by
  rw [State.grantChannel, hc, hcl]
  dsimp only
  rw [hj]
  dsimp only
  rw [if_neg hp, he, if_pos hcap]
  rfl

/-- R73, R93, R97: a grant starts the device read. -/
theorem grantChannel_device (hp : p ≠ .host) (hcap : e.base + b < (s.ports.get p).capacity) :
    s.grantChannel p c = State.placeClaim ((s.grantedTo p c b).updPort p fun x =>
      { x with reads := x.reads ++ [⟨.chan c b, e.base + b⟩] }) c t := by
  rw [State.grantChannel, hc, hcl]
  dsimp only
  rw [hj]
  dsimp only
  rw [if_neg hp, he, if_neg (Nat.not_le.2 hcap)]
  rfl

omit he in
/-- R113, R121: a grant on HOST wants the block. -/
theorem grantChannel_host (hp : p = .host) : s.grantChannel p c
    = State.placeClaim ({ s.grantedTo p c b with
        wanted := s.wanted ++ [(⟨t, j.tag, b, 100 * s.settings.hostTimeout⟩ : Wanted)], raised := .want t :: s.raised }) c t := by
  rw [State.grantChannel, hc, hcl]
  dsimp only
  rw [hj]
  dsimp only
  rw [if_pos hp]
  rfl

end

/-- Settles O8, by the equations for a device grant and for the claim that follows it. -/
theorem grantStartsDeviceRead : Obligations.GrantStartsDeviceRead := by
  intro s p c t j e k hr hp hst hsave hl hg hc hcl hj he hport hcap x y
  refine happens_quiet _ _ _ hr ?_ rfl
  show State.grantPort { s with raised := [] } p = _
  rw [grantPort_channel (s := { s with raised := [] })
      (mayGrant_of (s := { s with raised := [] }) hst hsave (by rw [outstanding_device hp]; exact hl)) hg,
    grantChannel_device (s := { s with raised := [] }) hc hcl hj he hp hcap]
  refine (placeClaim_eq (j := j) (e := e) (by exact hj) he ?_).trans ?_
  · rw [hport]
    exact ready_refuses (by simp [State.updPort, State.grantedTo, hst])
  · simp [State.updPort, State.grantedTo, y, x, Channel.claiming, hport, Channel.granted]

/-- Settles O9, by the equations for a grant on HOST and for the claim that follows it. -/
theorem grantWantsHostBlock : Obligations.GrantWantsHostBlock := by
  intro s c t j e k hr hst hl hg hc hcl hj he hport x y
  refine happens_want (l := [.want t]) (k := j) hr ?_ rfl hj (by simp)
  show State.grantPort { s with raised := [] } .host = _
  rw [grantPort_channel (s := { s with raised := [] })
      (mayGrant_of (s := { s with raised := [] }) (p := .host) hst (by simp) hl) hg,
    grantChannel_host (s := { s with raised := [] }) hc hcl hj rfl]
  refine (placeClaim_eq (j := j) (e := e) (by exact hj) he ?_).trans ?_
  · rw [hport]
    exact ready_refuses (p := .host) (by simp [State.grantedTo, PerPort.get, PerPort.set, hst])
  · simp [State.grantedTo, y, x, Channel.claiming, hport, Channel.granted]
    exact ⟨rfl, rfl⟩

/-- R94, R75: a grant beyond the capacity ends the attempt. -/
theorem readBeyondCapacityEnds : Claims.ReadBeyondCapacityEnds := by
  intro s p c t j e b q u k hr hp hst hsave hl hg hc hcl hj he hport hcap hw hq x s1 h
  refine happens_reporting_job hr ?_ h.lands.raised h.lands.job
  show (State.grantPort { s with raised := [] } p).Reporting u [.job t]
  rw [grantPort_channel (s := { s with raised := [] })
      (mayGrant_of (s := { s with raised := [] }) hst hsave (by rw [outstanding_device hp]; exact hl)) hg,
    grantChannel_beyond (s := { s with raised := [] }) hc hcl hj he hp hcap,
    channelFails_attempt (s := State.grantedTo { s with raised := [] } p c b) (t := t) (j := j)
      (by simpa [State.grantedTo, Channel.granted] using hc) hj h.state]
  refine endAttempt_reporting (s := (State.grantedTo { s with raised := [] } p c b).putSlot c b .free) (k := k) hj hq ?_ hw
  have : (State.grantedTo { s with raised := [] } p c b).putSlot c b .free = s1 := by
    simp [State.grantedTo, State.putSlot, State.updChannel, s1, x]
  rw [this]
  exact h

/-- R99, R101, R103: where a port may not grant, or nothing waits on it. -/
theorem grantIsWithheld : Claims.GrantIsWithheld := by
  intro s p hr h
  refine happens_idle _ s hr ?_
  show State.grantPort { s with raised := [] } p = _
  by_cases hm : State.mayGrant { s with raised := [] } p = true
  · obtain ⟨hst, hsave, hl⟩ := (mayGrant_iff _ p).1 hm
    rcases h with h | h | ⟨h, hx⟩ | ⟨ha, hb, hh⟩
    · exact absurd hst h
    · exact absurd hl (Nat.not_lt.2 h)
    · exact absurd (hsave h) (by rw [State.writerClaims, show ({ s with raised := [] } : State).store.save.isSome = true from hx]; simp)
    · have hg : State.grantee { s with raised := [] } p = none := by
        show State.grantee s p = none
        simp [State.grantee, ha, hb]
      have hk : State.peekClaim { s with raised := [] } p = none := by
        simp [State.peekClaim, hh]
      rw [State.grantPort, if_pos hm, hg]
      dsimp only
      rw [hk]
  · rw [State.grantPort, if_neg hm]

/-- R102: whom a grant goes to. -/
theorem arbitrationFollowsMode : Claims.ArbitrationFollowsMode := by
  intro s p
  refine ⟨fun ha hb => ⟨fun h => ?_, fun h => ?_, fun h hl => ?_, fun h hl => ?_⟩, fun ha hb => ?_, fun ha hb => ?_, fun ha hb => ?_⟩
  all_goals simp [State.grantee, preferred, *]

/-- R101, R107: the PEEK path is granted where no channel waits. -/
theorem grantServesPeek : Claims.GrantServesPeek := by
  intro s p a r hr hst hsave hl ha hb hk hh
  have hg : State.grantee { s with raised := [] } p = none := by
    show State.grantee s p = none
    simp [State.grantee, ha, hb]
  have grants : State.grantPort { s with raised := [] } p = State.grantPeek { s with raised := [] } p a := by
    rw [State.grantPort, if_pos (mayGrant_of (s := { s with raised := [] }) hst hsave hl), hg]
    dsimp only
    rw [show State.peekClaim { s with raised := [] } p = some a from hk]
  refine ⟨fun hcap => happens_quiet _ _ _ hr (grants.trans ?_) rfl, fun hcap => happens_quiet _ _ _ hr (grants.trans ?_) rfl⟩
  · rw [State.grantPeek, if_neg (Nat.not_le.2 hcap)]
    rfl
  · rw [State.grantPeek, if_pos hcap, replyPeek_eq (s := { s with raised := [] }) hh, reply_served rfl]
    rfl

/-- Settles O10, its three parts one after another. -/
theorem grantsFollowArbiter : Obligations.GrantsFollowArbiter :=
  ⟨grantIsWithheld, arbitrationFollowsMode, grantServesPeek⟩

/-- R107: a read of the PEEK path answers the PEEK in service. -/
theorem peekReadIsAnswered : Claims.PeekReadIsAnswered := by
  intro s p n a b r data hr hp hread hh hsave s1
  have answers : ∀ st data, (s.withoutRead p n).replyPeek p st data
      = s1.served r st (if st = .ok then portCode p :: (le 4 a ++ data) else []) := fun st data => by
    rw [replyPeek_eq (s := s.withoutRead p n) hh, reply_served rfl]
    rfl
  have error : State.completeRead { s with raised := [] } p n (State.handError p) = s1.served r .readError [] :=
    completeRead_found (s := { s with raised := [] }) hp hread (answers .readError []) hsave
  refine ⟨fun hd => ?_, happens_quiet _ _ _ hr error rfl, happens_quiet _ _ _ hr error rfl⟩
  rw [exec_readComplete hd]
  exact happens_quiet _ _ _ hr (completeRead_found (s := { s with raised := [] }) hp hread (answers .ok data) hsave) rfl

end Sys2Proof.Machine
end

section
/-! SUPPORT. The ends of probes and wakes and the card's removal (O7, O11). -/

namespace Sys2Proof.Machine

variable {s u v : State} {t : Target} {j k : Job} {c : Chan} {p : Port} {n b a : Nat} {e : SourceEntry} {q : Position}
  {r : Request} {st : Status} {rs : List ReportId} {o : AttemptOutcome}

/-! ### Claims answered with NO PORT -/

theorem refuseChannel_skip (h : s.claims c p = false) : s.refuseChannel p c = s := by
  rw [State.refuseChannel, if_neg (by simp [h])]

/-- R72, R73: the state in which the claim of channel `c` has been answered with NO PORT: a grant and a completion in one. -/
def State.claimRefused (s : State) (c : Chan) : State := { s with
  channels := s.channels.set c { s.channels.get c with claim := none, issue := (s.channels.get c).issue + 1 } }

/-- R72, R98: a waiting claim answered with NO PORT ends the attempt. -/
theorem refuseChannel_ends (h : (s.channels.get c).claim = some ⟨p, b⟩) (hc : (s.channels.get c).running = some t) :
    s.refuseChannel p c = (s.claimRefused c).endAttempt c t .noPort := by
  rw [State.refuseChannel, if_pos (by simp [State.claims, h]), hc]
  rfl

/-- An operation on each channel in turn, which does something at `c` alone. -/
theorem acts_at_one {f : State → Chan → State} (hf : ∀ w d, d ≠ c → w.channels.get d = s.channels.get d → f w d = w)
    (h : (f s c).Reporting u rs) (hu : ∀ d, d ≠ c → u.channels.get d = s.channels.get d) :
    (f (f s .a) .b).Reporting u rs := by
  cases c with
  | a =>
    obtain ⟨l, e, hl⟩ := h
    rw [e, hf { u with raised := l } .b (by simp) (hu .b (by simp))]
    exact ⟨l, rfl, hl⟩
  | b =>
    rw [hf s .a (by simp) rfl]
    exact h

/-! ### The relations of the search, with other reports raised -/

theorem State.Moved.raising (hj : s.job t = some j) {x : Job} (h : s.Moved c t x u k) (l : List ReportId) :
    State.Moved { s with raised := l } c t x { u with raised := l } k := by
  have h' := h.written j l
  rwa [withJob_self s t j hj] at h'

theorem State.ProbeEnded.raising (hj : s.job t = some j) (h : s.ProbeEnded c t j q o u k) (l : List ReportId) :
    State.ProbeEnded { s with raised := l } c t j q o { u with raised := l } k :=
  State.Moved.raising (s := { s with channels := s.channels.set c { s.channels.get c with claim := none } }) (j := j) hj h l

theorem State.FetchEnded.raising (hj : s.job t = some j) (h : s.FetchEnded c t j q o u k) (l : List ReportId) :
    State.FetchEnded { s with raised := l } c t j q o { u with raised := l } k := by
  unfold State.FetchEnded at h ⊢
  dsimp only at h ⊢
  split at h
  · rename_i hd
    rw [if_pos (by exact hd)]
    obtain ⟨rfl, rfl⟩ := h
    exact ⟨rfl, rfl⟩
  · rename_i hd
    rw [if_neg (by exact hd)]
    exact State.Moved.raising (s := s.cleared c t j.fromHost) (j := j) hj h l

theorem State.AttemptEnded.raising (hj : s.job t = some j) (h : s.AttemptEnded c t j q o u k) (l : List ReportId) :
    State.AttemptEnded { s with raised := l } c t j q o { u with raised := l } k :=
  h.imp (fun ⟨h1, h2, h⟩ => ⟨h1, h2, h.raising hj l⟩) fun ⟨h1, h2, h⟩ => ⟨h1, h2, h.raising hj l⟩

/-- R92, R95, R98: the one claim waiting on a port is answered with NO PORT, and its attempt ends. -/
theorem refuseChannels_one (hcl : (s.channels.get c).claim = some ⟨p, b⟩) (ho : ∀ d, d ≠ c → s.claims d p = false)
    (hc : (s.channels.get c).running = some t) (hj : s.job t = some j) (hq : j.position = some q)
    (hw : s.wanted.any (·.target = t) = false)
    (h : (State.claimRefused { s with raised := [] } c).AttemptEnded c t j q .noPort u k) :
    ((s.refuseChannel p .a).refuseChannel p .b).Reporting u (.job t :: s.raised) := by
  have others : ∀ d, d ≠ c → u.channels.get d = s.channels.get d := fun d hd =>
    (h.lands.others d hd).trans (get_set_others s c _ d hd)
  refine acts_at_one (s := s) (c := c) (f := fun w d => w.refuseChannel p d) (fun w d hd hw => refuseChannel_skip ?_) ?_ others
  · rw [State.claims, hw]
    exact ho d hd
  · rw [refuseChannel_ends hcl hc]
    exact endAttempt_reporting (s := s.claimRefused c) (u := { u with raised := s.raised }) (k := k) hj hq
      (h.raising (s := State.claimRefused { s with raised := [] } c) hj s.raised) hw

/-! ### Requests in service -/

theorem refusePeek_other (h : ∀ r a, s.link.handler ≠ .serving r (.peek p a)) : s.refusePeek p = s := by
  unfold State.refusePeek State.replyPeek
  split
  · rename_i r q a hh
    exact if_neg fun e => h r a (by rw [hh, e])
  · rfl
  · rfl
  · rfl
  · rfl

theorem replyRescan_other (h : ∀ r, s.link.handler ≠ .serving r (.rescan p)) : s.replyRescan p st = s := by
  unfold State.replyRescan
  split
  · rename_i r q hh
    exact if_neg fun e => h r (by rw [hh, e])
  · rfl
  · rfl
  · rfl
  · rfl

/-- R107, R108: what is left to answer once the channels have acted, with nothing in service. -/
theorem answers_idle (h : v.Reporting u rs) (hh : u.link.handler = .idle) : ((v.refusePeek p).replyRescan p st).Reporting u rs := by
  obtain ⟨l, rfl, hl⟩ := h
  rw [refusePeek_other (fun r a => by rw [show (State.link _).handler = .idle from hh]; simp),
    replyRescan_other (fun r => by rw [show (State.link _).handler = .idle from hh]; simp)]
  exact ⟨l, rfl, hl⟩

/-- R108, R109: the same with a RESCAN of the port in service, which is answered. -/
theorem answers_rescan (h : v.Reporting u rs) (hh : u.link.handler = .serving r (.rescan p)) :
    ((v.refusePeek p).replyRescan p st).Reporting (u.served r st
      (if st = .ok then portCode p :: portStateCode (u.ports.get p).state :: le 4 (u.ports.get p).capacity else [])) rs := by
  obtain ⟨l, rfl, hl⟩ := h
  rw [refusePeek_other (fun r a => by rw [show (State.link _).handler = _ from hh]; simp),
    replyRescan_eq (s := { u with raised := l }) (r := r) hh, reply_eq]
  exact ⟨l, rfl, hl⟩

/-- R92, R98: with no claim of a channel and no PEEK waiting there is nothing to refuse. -/
theorem refuseClaims_nothing (ha : s.claims .a p = false) (hb : s.claims .b p = false)
    (h : ∀ r a, s.link.handler ≠ .serving r (.peek p a)) : s.refuseClaims p = s := by
  rw [State.refuseClaims, refuseChannel_skip ha, refuseChannel_skip hb, refusePeek_other h]

/-! ### The port itself -/

/-- R91: the state in which port `p` has changed its state and its capacity, with a PART report raised. -/
def State.portEnds (s : State) (p : Port) (x : PortState) (n : Nat) : State := { s with
  ports := s.ports.set p { s.ports.get p with state := x, capacity := n }, raised := .part :: s.raised }

theorem setPortState_new {x : PortState} (h : (s.ports.get p).state ≠ x) : s.setPortState p x
    = { s with ports := s.ports.set p { s.ports.get p with state := x }, raised := .part :: s.raised } := by
  rw [State.setPortState, if_neg h]
  rfl

theorem portEnds_eq {x : PortState} (h : (s.ports.get p).state ≠ x) (n : Nat) :
    (s.setPortState p x).setCapacity p n = s.portEnds p x n := by
  rw [setPortState_new h]
  simp [State.setCapacity, State.updPort, State.portEnds]

theorem probesEnd_ready (h : s.store.startup = .ready) : s.probesEnd = s := by
  rw [State.probesEnd, if_neg (by simp [h])]

/-- R92: a flash probe ends with a capacity. -/
theorem probeEnds_answered (h : (s.ports.get p).state = .probing) (hn : 0 < n) :
    s.probeEnds p n = ((s.portEnds p .ready (min n 16777216)).replyRescan p .ok).probesEnd := by
  rw [State.probeEnds, if_pos h]
  dsimp only
  rw [if_neg (by omega), portEnds_eq (by simp [h])]
  rfl

/-- R92, R98: a flash probe ends ABSENT, and the claims are answered. -/
theorem probeEnds_absent (h : (s.ports.get p).state = .probing) :
    s.probeEnds p 0 = (((s.portEnds p .absent 0).refuseClaims p).replyRescan p .ok).probesEnd := by
  rw [State.probeEnds, if_pos h]
  dsimp only
  rw [if_pos rfl, portEnds_eq (by simp [h])]

/-- R95: a wake ends with a capacity. -/
theorem wakeEnds_answered (h : s.ports.card.state = .waking) (n : Nat) :
    s.wakeEnds (some n) = (s.portEnds .card .ready (min n 16777216)).replyRescan .card .ok := by
  rw [State.wakeEnds, if_pos (by exact h)]
  dsimp only
  rw [portEnds_eq (p := .card) (by rw [show (s.ports.get .card).state = .waking from h]; simp)]
  rfl

/-- R95, R98: a wake ends FAULTED, and the claims are answered. -/
theorem wakeEnds_faulted (h : s.ports.card.state = .waking) :
    s.wakeEnds none = ((s.portEnds .card .faulted 0).refuseClaims .card).replyRescan .card .ok := by
  rw [State.wakeEnds, if_pos (by exact h)]
  dsimp only
  rw [portEnds_eq (p := .card) (by rw [show (s.ports.get .card).state = .waking from h]; simp)]

/-- R96: the state in which the card is out, with its reads gone, in an event that has raised the PART report alone. -/
def State.cardOut (s : State) : State := { s with
  pins := { s.pins with card := false }
  ports := { s.ports with card := { s.ports.card with state := .empty, capacity := 0, reads := [] } }
  raised := [.part] }

/-- The state in which the event of the card's removal acts. -/
def State.cardPulled (s : State) : State := { s with pins := { s.pins with card := false }, raised := [] }

theorem removeCard_eq (h : s.ports.card.state ≠ .empty) :
    s.cardPulled.removeCard =
    (((s.cardOut.removeFrom s.ports.card.reads .a).removeFrom s.ports.card.reads .b).refusePeek .card).replyRescan .card
      .noPort := by
  unfold State.removeCard
  dsimp only
  rw [setPortState_new (s := s.cardPulled) (p := .card) h]
  rfl

/-- R96, R98: a channel with no outstanding read on the card has its claim answered. -/
theorem removeFrom_none {gone : List Read} (h : ∀ x ∈ gone, ∀ b, x.reader ≠ .chan c b) :
    s.removeFrom gone c = s.refuseChannel .card c := by
  unfold State.removeFrom
  dsimp only
  rw [if_neg]
  rw [List.any_eq_true]
  rintro ⟨x, hx, hm⟩
  split at hm
  · rename_i d b hr
    exact h x hx b (by rw [hr, of_decide_eq_true hm])
  · simp at hm

/-- R86: the state in which the card reads of channel `c` have left their slots. -/
def State.readsGone (s : State) (c : Chan) : State := { s with
  channels := s.channels.set c
    { s.channels.get c with slots := (s.channels.get c).slots.map fun y => if y.isInFlight then .free else y } }

section
variable {gone : List Read} (hne : gone ≠ []) (hg : ∀ x ∈ gone, ∃ b, x.reader = .chan c b)
include hne hg

theorem removeFrom_mine (hc : (s.channels.get c).running = some t) (hj : s.job t = some j) : s.removeFrom gone c =
    match j.state with
    | .probing | .streaming => (s.readsGone c).endAttempt c t .noPort
    | .draining => (s.readsGone c).drained c t
    | .queued | .backoff | .finishing | .delivered | .failed | .aborted => s.readsGone c := by
  unfold State.removeFrom
  dsimp only
  rw [if_pos, hc]
  · dsimp only
    rw [hj]
    rfl
  · obtain ⟨x, xs, rfl⟩ := List.exists_cons_of_ne_nil hne
    obtain ⟨b, hb⟩ := hg x (by simp)
    rw [List.any_cons, hb]
    simp

omit hne in
/-- R86, R96: the removal of the card at the one channel that reads it. -/
theorem removeFroms_one (ho : ∀ d, d ≠ c → s.claims d .card = false) (h : (s.removeFrom gone c).Reporting u rs)
    (hu : ∀ d, d ≠ c → u.channels.get d = s.channels.get d) :
    ((s.removeFrom gone .a).removeFrom gone .b).Reporting u rs := by
  refine acts_at_one (s := s) (c := c) (f := fun w d => w.removeFrom gone d) (fun w d hd hw => ?_) h hu
  show w.removeFrom gone d = w
  rw [removeFrom_none fun x hx b hb => ?_, refuseChannel_skip]
  · rw [State.claims, hw]
    exact ho d hd
  · obtain ⟨b', hb'⟩ := hg x hx
    rw [hb] at hb'
    injection hb' with hdc
    exact hd hdc

end

end Sys2Proof.Machine
end

section
/-! SUPPORT. What probes, wakes and the card's removal do, as commands (O7, O11). -/

namespace Sys2Proof.Machine

variable {s u v : State} {t : Target} {j k : Job} {c : Chan} {p : Port} {n b a : Nat} {q : Position} {r : Request} {f : State → State}
  {x : PortState} {rs : List ReportId} {i : Instr}

theorem State.Reporting.swap {x y : ReportId} (h : v.Reporting u [x, y]) : v.Reporting u [y, x] := by
  obtain ⟨l, e, hl⟩ := h
  exact ⟨l, e, fun z => (hl z).trans (by simp [or_comm])⟩

theorem exec_cardRemove (h : s.pins.card = true) :
    exec .cardRemove s = happens State.removeCard (s.updPins fun x => { x with card := false }) := if_pos h

theorem exec_wakeFails (hi : i ∈ [Instr.cardWakeError, .cardWakeTimeout]) : exec i s = happens (·.wakeEnds none) s := by
  simp only [List.mem_cons, List.not_mem_nil, or_false] at hi
  rcases hi with rfl | rfl <;> rfl

theorem exec_probeFails (hi : i ∈ [Instr.flashProbeAnswer p 0, .flashProbeTimeout p]) : exec i s = happens (·.probeEnds p 0) s := by
  simp only [List.mem_cons, List.not_mem_nil, or_false] at hi
  rcases hi with rfl | rfl <;> rfl

theorem exec_probeEnds (hi : i ∈ Instr.flashProbeAnswer p n :: (if n = 0 then [.flashProbeTimeout p] else [])) :
    exec i s = happens (·.probeEnds p n) s := by
  split at hi
  · rename_i hn
    subst hn
    exact exec_probeFails hi
  · rw [List.mem_singleton.1 hi]
    rfl

/-! ### With no claim to refuse -/

/-- R108, R109, R91: the end of a probe or wake that answers the RESCAN in service. -/
theorem rescan_answered (hr : s.pins.reset = false) (hh : s.link.handler = .serving r (.rescan p))
    (hf : f { s with raised := [] } = (State.portEnds { s with raised := [] } p x n).replyRescan p .ok) :
    happens f s = .next (({ s with ports := s.ports.set p { s.ports.get p with state := x, capacity := n } }).served r .ok
      (portCode p :: portStateCode x :: le 4 n)).withPartReport := by
  refine happens_part (l := [.part]) hr ?_ rfl (by simp)
  rw [hf, replyRescan_eq (s := State.portEnds { s with raised := [] } p x n) (r := r) hh, reply_eq]
  simp [State.portEnds, State.served, State.answered]

theorem rescan_notPeek (hh : s.link.handler = .serving r (.rescan p)) : ∀ r' a, s.link.handler ≠ .serving r' (.peek p a) := by
  rw [hh]
  simp

theorem idle_not {w : Work} (hh : s.link.handler = .idle) (r : Request) : s.link.handler ≠ .serving r w := by
  rw [hh]
  simp

/-- R96, R107: the removal of a card that no channel reads or claims. -/
theorem removeCard_alone (h : s.ports.card.state ≠ .empty) (ha : s.claims .a .card = false) (hb : s.claims .b .card = false)
    (hp : ∀ x ∈ s.ports.card.reads, x.reader = .peek) :
    s.cardPulled.removeCard
      = (s.cardOut.refusePeek .card).replyRescan .card .noPort := by
  have skips : ∀ d, s.claims d .card = false → s.cardOut.removeFrom s.ports.card.reads d = s.cardOut := fun d hd => by
    rw [removeFrom_none fun x hx b hb => by rw [hp x hx] at hb; simp at hb]
    exact refuseChannel_skip (s := s.cardOut) hd
  rw [removeCard_eq h, skips .a ha, skips .b hb]

/-- The one way the removal of the card ends: with a PART report alone. -/
theorem cardRemove_part (hr : s.pins.reset = false) (hc : s.pins.card = true) (hu : u.raised = [])
    (h : s.cardPulled.removeCard = { u with raised := [.part] }) :
    exec .cardRemove s = .next u.withPartReport := by
  rw [exec_cardRemove hc]
  exact happens_part hr h hu (by simp)

/-- The other: with a JOB report as well. -/
theorem cardRemove_part_job (hr : s.pins.reset = false) (hc : s.pins.card = true) (hu : u.raised = []) (hj : u.job t = some k)
    (h : (s.cardPulled.removeCard).Reporting u [.job t, .part]) :
    exec .cardRemove s = .next (u.withPartReport.withJobReport t k) := by
  rw [exec_cardRemove hc]
  exact happens_reporting_part_job hr h.swap hu hj

/-- R108, R109: a RESCAN in service is answered by the end of its port's probe or wake. -/
theorem rescanIsAnswered : Claims.RescanIsAnswered := by
  intro s r hr
  refine ⟨fun p hp hh hst hpr => ⟨fun n hn => ?_, fun ha hb i hi => ?_⟩, fun hh hw => ⟨fun n => ?_, fun ha hb =>
    ⟨fun i hi => ?_, fun hcard hreads => ?_⟩⟩⟩
  · refine rescan_answered (f := (·.probeEnds p n)) hr hh ?_
    rw [probeEnds_answered (s := { s with raised := [] }) hpr hn, probesEnd_ready]
    obtain ⟨l, e⟩ := replyRescan_link (State.portEnds { s with raised := [] } p .ready (min n 16777216)) p .ok
    rw [e]
    exact hst
  · rw [exec_probeFails hi]
    refine (rescan_answered (x := .absent) (n := 0) (f := (·.probeEnds p 0)) hr hh ?_)
    rw [probeEnds_absent (s := { s with raised := [] }) hpr,
      refuseClaims_nothing (s := State.portEnds { s with raised := [] } p .absent 0) ha hb (rescan_notPeek hh), probesEnd_ready]
    obtain ⟨l, e⟩ := replyRescan_link (State.portEnds { s with raised := [] } p .absent 0) p .ok
    rw [e]
    exact hst
  · exact rescan_answered (f := (·.wakeEnds (some n))) hr hh (wakeEnds_answered (s := { s with raised := [] }) hw n)
  · rw [exec_wakeFails hi]
    refine rescan_answered (x := .faulted) (n := 0) (f := (·.wakeEnds none)) hr hh ?_
    rw [wakeEnds_faulted (s := { s with raised := [] }) hw,
      refuseClaims_nothing (s := State.portEnds { s with raised := [] } .card .faulted 0) ha hb (rescan_notPeek hh)]
  · refine cardRemove_part hr hcard rfl ?_
    have hne : s.ports.card.state ≠ .empty := by rw [hw]; simp
    rw [removeCard_alone hne ha hb (by simp [hreads]), refusePeek_other (s := s.cardOut) (rescan_notPeek hh),
      replyRescan_eq (s := s.cardOut) (r := r) hh, reply_eq]
    simp [State.cardOut, State.served, State.answered, hreads]

/-- Settles O11, its two parts one after another. -/
theorem portRequestsAreAnswered : Obligations.PortRequestsAreAnswered := ⟨rescanIsAnswered, peekReadIsAnswered⟩

/-- R92, R98: claims answered with NO PORT touch neither the ports nor the pins, and with a RESCAN in service not the link. -/
theorem refuseClaims_rescan (hh : s.link.handler = .serving r (.rescan p)) : SearchFrame s (s.refuseClaims p) := by
  have h := (refuseChannel_frame s p .a).trans (refuseChannel_frame _ p .b)
  rw [State.refuseClaims, refusePeek_other (rescan_notPeek (r := r) (by rw [h.link, hh]))]
  exact h

/-- R92, R108: the port and the RESCAN, whatever claims wait. -/
theorem flashProbeEnds : Claims.FlashProbeEnds := by
  intro s p r n hp hr hst hpr hh q i hi
  rw [exec_probeEnds hi]
  obtain ⟨es, he⟩ := happens_eq (·.probeEnds p n) s hr
  refine ⟨_, he, ?_⟩
  have answered : ∀ (w : State) (z : PortState) (m : Nat), SearchFrame (State.portEnds { s with raised := [] } p z m) w →
      let y := (w.replyRescan p .ok).probesEnd
      y.ports = s.ports.set p { s.ports.get p with state := z, capacity := m } ∧ y.pins = s.pins
        ∧ y.link = (s.served r .ok (portCode p :: portStateCode z :: le 4 m)).link := by
    intro w z m hw
    have hl : w.link = s.link := hw.link
    have hports : w.ports = s.ports.set p { s.ports.get p with state := z, capacity := m } := hw.ports
    have hpins : w.pins = s.pins := hw.pins
    dsimp only
    rw [replyRescan_eq (r := r) (by rw [hl, hh]), reply_eq, probesEnd_ready (by exact hw.startup.trans hst)]
    refine ⟨hports, hpins, ?_⟩
    simp [State.served, State.answered, hports, hl]
  by_cases hn : n = 0
  · subst hn
    show _ = _ ∧ _ = _ ∧ _ = _
    rw [probeEnds_absent (s := { s with raised := [] }) hpr]
    exact answered _ .absent 0 (refuseClaims_rescan (r := r) hh)
  · have hq : q = { s.ports.get p with state := .ready, capacity := min n 16777216 } := by simp [q, hn]
    rw [hq, probeEnds_answered (s := { s with raised := [] }) hpr (Nat.pos_of_ne_zero hn)]
    exact answered _ .ready (min n 16777216) (.refl _)

/-- R95, R91: a wake that starts, and one that ends with nothing to answer. -/
theorem cardWakes : Claims.CardWakes := by
  intro s hr
  refine ⟨fun hc he => ?_, fun hw ha hb hh => ?_⟩
  · have start : exec .cardInsert s = happens State.insertCard (s.updPins fun x => { x with card := true }) :=
      if_neg (by simp [hc])
    rw [start]
    refine happens_part (l := [.part]) hr ?_ rfl (by simp)
    rw [State.insertCard, if_pos (by exact he), setPortState_new (p := .card) (by exact he ▸ (by simp))]
    rfl
  · have faulted : happens (·.wakeEnds none) s
        = .next ({ s with ports := { s.ports with card := { s.ports.card with state := .faulted, capacity := 0 } }
                          raised := [] } : State).withPartReport := by
      refine happens_part (l := [.part]) hr ?_ rfl (by simp)
      rw [wakeEnds_faulted (s := { s with raised := [] }) hw,
        refuseClaims_nothing (s := State.portEnds { s with raised := [] } .card .faulted 0) ha hb fun r a => idle_not hh r,
        replyRescan_other (s := State.portEnds { s with raised := [] } .card .faulted 0) fun r => idle_not hh r]
      rfl
    refine ⟨fun n => happens_part (l := [.part]) hr ?_ rfl (by simp), faulted, faulted⟩
    rw [wakeEnds_answered (s := { s with raised := [] }) hw,
      replyRescan_other (s := State.portEnds { s with raised := [] } .card .ready _) fun r => idle_not hh r]
    rfl

/-- R96, R107: the removal of a card that no channel reads or claims. -/
theorem cardRemoved : Claims.CardRemoved := by
  intro s hr hc hne ha hb s1
  refine ⟨fun hreads hpeek hrescan => cardRemove_part hr hc rfl ?_, fun r a hreads hh => cardRemove_part hr hc rfl ?_⟩
  · rw [removeCard_alone hne ha hb (by simp [hreads]), refusePeek_other (s := s.cardOut) hpeek,
      replyRescan_other (s := s.cardOut) hrescan]
    rfl
  · rw [removeCard_alone hne ha hb hreads, State.refusePeek, replyPeek_eq (s := s.cardOut) (r := r) (a := a) hh,
      replyRescan_other, reply_eq]
    · rfl
    · rw [reply_eq]
      simp [State.served, State.answered]

/-- R86, R96: the removal of a card that one channel reads. -/
theorem cardRemovedUnderReads : Claims.CardRemovedUnderReads := by
  intro s c t j e p u k hr hc hst hreads hg ho hh hrun hj he hport hw hp x s1 aborted
  have hne : s.ports.card.state ≠ .empty := by rw [hst]; simp
  have removed : ∀ (v : State) (m : Job), s1.Lands c t v m →
      (s.cardOut.removeFrom s.ports.card.reads c).Reporting v [.job t, .part] →
      exec .cardRemove s = .next (v.withPartReport.withJobReport t m) := by
    intro v m hv h
    refine cardRemove_part_job hr hc hv.raised hv.job ?_
    rw [removeCard_eq hne]
    exact answers_idle (removeFroms_one (s := s.cardOut) hg ho h fun d hd => (hv.others d hd).trans (get_set_others s c x d hd))
      (by rw [hv.link]; exact hh)
  have mine := removeFrom_mine (s := s.cardOut) hreads hg hrun hj
  have hs1 : s.cardOut.readsGone c = { s1 with raised := [.part] } := rfl
  have drained : s1.draining c = false := by
    simp only [State.draining, s1, x, PerChan.get_set_same, List.any_map, List.any_eq_false]
    intro y _
    show ¬ Slot.isInFlight (if y.isInFlight then .free else y) = true
    split
    · simp [Slot.isInFlight]
    · assumption
  refine ⟨fun hs hph h => removed u k h.lands ?_, fun hs hph h => removed u k h.lands ?_, fun hs ha h => removed u k h.lands ?_,
    fun hs ha => (removed (State.withJob { s1 with channels := s.channels.set c x.left } t aborted) aborted
      ⟨withJob_job .., rfl, rfl, rfl, fun d hd => ?_, rfl⟩ ?_).trans rfl⟩
  · rw [mine, hs, hs1]
    exact endAttempt_reporting (s := { s1 with raised := [.part] }) (u := { u with raised := [.part] }) (k := k) hj hp
      (.inr ⟨hs, hph, h.raising (s := s1) hj [.part]⟩) hw
  · rw [mine, hs, hs1]
    exact endAttempt_reporting (s := { s1 with raised := [.part] }) (u := { u with raised := [.part] }) (k := k) hj hp
      (.inl ⟨hs, hph, h.raising (s := s1) hj [.part]⟩) hw
  · rw [mine, hs, hs1]
    show (State.drained { s1 with raised := [.part] } c t).Reporting u _
    rw [drained_moves (s := { s1 with raised := [.part] }) drained hj ha]
    refine moveOn_reporting (s := { s1 with raised := [.part] }) (u := { u with raised := [.part] }) (k := k) hj
      (h.raising (s := s1) (j := j) hj [.part]) ?_
    by_cases hk : k.state = .probing
    · exact .inl (by simp [hk, hs])
    · exact .inr hk
  · exact (get_set_others s c x.left d hd).trans (get_set_others s c x d hd).symm
  · rw [mine, hs, hs1]
    show (State.drained { s1 with raised := [.part] } c t).Reporting _ _
    rw [drained_aborted (s := { s1 with raised := [.part] }) drained hj ha, abortJob_eq (s := { s1 with raised := [.part] }) hj]
    exact ⟨[.job t, .part], by simp [s1, aborted, State.withJob], fun _ => .rfl⟩

/-- R96: where the card has no read outstanding, its removal is a change of the port with its claims refused. -/
theorem removeCard_noReads (h : s.ports.card.state ≠ .empty) (hreads : s.ports.card.reads = []) :
    s.cardPulled.removeCard = ((s.cardPulled.portEnds .card .empty 0).refuseClaims .card).replyRescan .card .noPort := by
  have e : s.cardOut = s.cardPulled.portEnds .card .empty 0 := by
    simp [State.cardOut, State.portEnds, State.cardPulled, PerPort.set, PerPort.get, hreads]
  rw [removeCard_eq h, hreads, removeFrom_none (by simp), removeFrom_none (by simp), e]
  rfl

theorem claims_of_channels {w : State} (hc : w.channels = s.channels) (d : Chan) (p : Port) : w.claims d p = s.claims d p := by
  rw [State.claims, State.claims, hc]

/-- R95, R96, R98: a claim waiting on the card is refused when its wake fails or the card is removed. -/
theorem waitingClaimRefused : Claims.WaitingClaimRefused := by
  intro s c t j b p u k hr hst hreads hh hcl ho hrun hj hp hw x
  refine ⟨?_, ?_⟩
  · intro i hi s1 h
    rw [exec_wakeFails hi]
    refine happens_reporting_part_job hr (.swap ?_) h.lands.raised h.lands.job
    rw [wakeEnds_faulted (s := { s with raised := [] }) hst]
    exact answers_idle (refuseChannels_one (s := State.portEnds { s with raised := [] } .card .faulted 0) hcl ho hrun hj hp hw h)
      (by rw [h.lands.link]; exact hh)
  · intro hc s1 h
    refine cardRemove_part_job hr hc h.lands.raised h.lands.job ?_
    rw [removeCard_noReads (by rw [hst]; simp) hreads]
    exact answers_idle (refuseChannels_one (s := s.cardPulled.portEnds .card .empty 0) hcl ho hrun hj hp hw h)
      (by rw [h.lands.link]; exact hh)

/-- R92, R95, R96, R108, R109: the same with a RESCAN in service. -/
theorem rescanRefusesClaims : Claims.RescanRefusesClaims := by
  intro s r q c t j b p u k hr hst hh hreads hcl ho hrun hj hp hw s1
  have answered : ∀ (g : State) (x : PortState) (st : Status), g.link = s.link → g.channels = s.channels → g.jobs = s.jobs →
      g.wanted = s.wanted → (u.ports.get q).state = x → (u.ports.get q).capacity = 0 → u.link = s.link →
      (State.claimRefused { g with raised := [] } c).AttemptEnded c t j p .noPort u k →
      ((g.refuseClaims q).replyRescan q st).Reporting
        (u.served r st (if st = .ok then portCode q :: portStateCode x :: [0#8, 0#8, 0#8, 0#8] else []))
        (.job t :: g.raised) := by
    intro g x st hl hc hjobs hwanted hx hcap hul h
    have := answers_rescan (st := st) (p := q) (r := r) (refuseChannels_one (s := g) (by rw [hc]; exact hcl)
      (fun d hd => by rw [claims_of_channels hc]; exact ho d hd) (by rw [hc]; exact hrun) (by rw [State.job, hjobs]; exact hj) hp
      (by rw [hwanted]; exact hw) h) (by rw [hul]; exact hh)
    rw [hx, hcap] at this
    exact this
  have ports : ∀ {w : State} {x : PortState}, w.Lands c t u k → w.ports.get q = { s.ports.get q with state := x, capacity := 0 } →
      (u.ports.get q).state = x ∧ (u.ports.get q).capacity = 0 := fun hl hw => by rw [hl.ports, hw]; exact ⟨rfl, rfl⟩
  refine ⟨fun hq hpr h i hi => ?_, fun hq hwk => ?_⟩
  · rw [exec_probeFails hi]
    obtain ⟨hx, hcap⟩ := ports (x := .absent) h.lands (by simp [s1])
    have := answered (State.portEnds { s with raised := [] } q .absent 0) .absent .ok rfl rfl rfl rfl hx hcap h.lands.link h
    refine happens_reporting_part_job (u := u.served r .ok _) hr (.swap ?_) rfl h.lands.job
    rw [probeEnds_absent (s := { s with raised := [] }) hpr,
      probesEnd_ready ((congrArg SetupStore.startup (this.store.trans h.lands.store)).trans hst)]
    exact this
  · subst hq
    refine ⟨fun h i hi => ?_, fun hc h => ?_⟩
    · obtain ⟨hx, hcap⟩ := ports (x := .faulted) h.lands (by simp [s1])
      rw [exec_wakeFails hi]
      refine happens_reporting_part_job (u := u.served r .ok _) hr (.swap ?_) rfl h.lands.job
      rw [wakeEnds_faulted (s := { s with raised := [] }) hwk]
      exact answered (State.portEnds { s with raised := [] } .card .faulted 0) .faulted .ok rfl rfl rfl rfl hx hcap h.lands.link h
    · obtain ⟨hx, hcap⟩ := ports (x := .empty) h.lands (by simp [s1])
      have hne : s.ports.card.state ≠ .empty := by rw [show s.ports.card.state = _ from hwk]; simp
      refine cardRemove_part_job (u := u.served r .noPort _) hr hc rfl h.lands.job ?_
      rw [removeCard_noReads hne hreads]
      exact answered (s.cardPulled.portEnds .card .empty 0) .empty .noPort rfl rfl rfl rfl hx hcap h.lands.link h

/-! ### The flash probes of start-up (R146) -/

theorem probesEnd_waits (h : (s.ports.get .flash0).state = .probing ∨ (s.ports.get .flash1).state = .probing) : s.probesEnd = s := by
  rw [State.probesEnd, if_neg]
  rintro ⟨-, h0, h1⟩
  exact h.elim h0 h1

/-- R146, R147: with FLASH0 READY the saved copies are read. -/
theorem probesEnd_loads (hs : s.store.startup = .probingPorts) (h0 : (s.ports.get .flash0).state = .ready)
    (h1 : (s.ports.get .flash1).state ≠ .probing) (hc : 0 < (s.ports.get .flash0).capacity) :
    s.probesEnd = { s with store := { s.store with startup := .loadingSetup, loads := [] } } := by
  rw [State.probesEnd, if_pos ⟨hs, by simp [h0], h1⟩, if_pos h0, startupAddresses, State.nextLoads, if_pos (by exact hc)]
  rfl

theorem autoStart_none (h : ∀ t, ((s.record t).present && (s.record t).autoStart) = false) : s.autoStart = s := by
  have key : ∀ ts : List Target, ts.foldl (fun x t => if (x.record t).present && (x.record t).autoStart then
      x.createJob t .start false none else x) s = s := by
    intro ts
    induction ts with
    | nil => rfl
    | cons t ts ih => rw [List.foldl_cons, if_neg (by simp [h t]), ih]
  exact key allTargets

/-- R146, R149: with FLASH0 ABSENT the part is READY on the defaults. -/
theorem probesEnd_noFlash (hs : s.store.startup = .probingPorts) (h0 : (s.ports.get .flash0).state = .absent)
    (h1 : (s.ports.get .flash1).state ≠ .probing) (ha : ∀ t, ((s.record t).present && (s.record t).autoStart) = false) :
    s.probesEnd = { s with
      store := { s.store with startup := .ready, loads := [], origin := .defaults, reason := .noFlash }
      raised := .part :: s.raised } := by
  rw [State.probesEnd, if_pos ⟨hs, by simp [h0], h1⟩, if_neg (by simp [h0]), State.becomeReady]
  exact autoStart_none ha

/-- R92: a port at the end of its probe. -/
def SourcePort.probed (x : SourcePort) (n : Nat) : SourcePort :=
  if n = 0 then { x with state := .absent, capacity := 0 } else { x with state := .ready, capacity := min n 16777216 }

/-- R92: the state at the end of a probe with nothing to answer. -/
def State.portProbed (s : State) (p : Port) (n : Nat) : State :=
  { s with ports := s.ports.set p ((s.ports.get p).probed n), raised := [.part] }

theorem probeEnds_quiet (hpr : (s.ports.get p).state = .probing) (hh : s.link.handler = .idle) (hc : s.channels = .all .reset) :
    State.probeEnds { s with raised := [] } p n = (s.portProbed p n).probesEnd := by
  by_cases hn : n = 0
  · subst hn
    have e : State.portEnds { s with raised := [] } p .absent 0 = s.portProbed p 0 := rfl
    have noClaims : ∀ d, (s.portProbed p 0).claims d p = false := fun d => by
      rw [State.claims]
      show (match (s.channels.get d).claim with | some k => _ | none => _) = false
      rw [hc, PerChan.get_all]
      rfl
    rw [probeEnds_absent (s := { s with raised := [] }) hpr, e, refuseClaims_nothing (noClaims .a) (noClaims .b) fun r a => idle_not hh r,
      replyRescan_other (s := s.portProbed p 0) fun r => idle_not hh r]
  · rw [probeEnds_answered (s := { s with raised := [] }) hpr (Nat.pos_of_ne_zero hn),
      replyRescan_other (s := State.portEnds { s with raised := [] } p .ready _) fun r => idle_not hh r]
    simp [State.portEnds, State.portProbed, SourcePort.probed, hn]

/-- R92: the end of a flash probe at start-up, whichever command tells it, with PART reports alone. -/
theorem startup_probe (hr : s.pins.reset = false) (hpr : (s.ports.get p).state = .probing) (hh : s.link.handler = .idle)
    (hc : s.channels = .all .reset) (hi : i ∈ Instr.flashProbeAnswer p n :: (if n = 0 then [.flashProbeTimeout p] else []))
    {l : List ReportId} (hu : u.raised = []) (hl : ∀ x, x ∈ l ↔ x = .part)
    (h : (s.portProbed p n).probesEnd = { u with raised := l }) : exec i s = .next u.withPartReport := by
  rw [exec_probeEnds hi]
  exact happens_part hr ((probeEnds_quiet hpr hh hc).trans h) hu hl

theorem probed_positive (x : SourcePort) (hn : 0 < n) : (x.probed n).state = .ready ∧ 0 < (x.probed n).capacity := by
  rw [SourcePort.probed, if_neg (by omega)]
  exact ⟨rfl, by dsimp only; omega⟩

theorem probed_notProbing (x : SourcePort) (n : Nat) : (x.probed n).state ≠ .probing := by
  rw [SourcePort.probed]
  split <;> simp

/-- R92, R146, R149: the flash probes of start-up. -/
theorem probesEndStartUp : Claims.ProbesEndStartUp := by
  intro s n hr hst hh hc ended commands loading noFlash manual
  refine ⟨?_, ?_⟩
  · intro hpr i hi s1
    refine ⟨fun h1 => ?_, fun h1 hn => ?_, fun h1 hn ha => ?_⟩
    · exact startup_probe (p := .flash0) (l := [.part]) hr hpr hh hc hi rfl (by simp) (probesEnd_waits (s := s.portProbed .flash0 n) (.inr h1))
    · obtain ⟨hready, hpos⟩ := probed_positive s.ports.flash0 hn
      exact startup_probe (p := .flash0) (l := [.part]) hr hpr hh hc hi rfl (by simp)
        (probesEnd_loads (s := s.portProbed .flash0 n) hst hready h1 hpos)
    · subst hn
      exact startup_probe (p := .flash0) (l := [.part, .part]) hr hpr hh hc hi rfl (by simp)
        (probesEnd_noFlash (s := s.portProbed .flash0 0) hst rfl h1 ha)
  · intro hpr i hi s1
    refine ⟨fun h0 => ?_, fun h0 hcap => ?_, fun h0 ha => ?_⟩
    · exact startup_probe (p := .flash1) (l := [.part]) hr hpr hh hc hi rfl (by simp) (probesEnd_waits (s := s.portProbed .flash1 n) (.inl h0))
    · exact startup_probe (p := .flash1) (l := [.part]) hr hpr hh hc hi rfl (by simp)
        (probesEnd_loads (s := s.portProbed .flash1 n) hst h0 (probed_notProbing _ n) hcap)
    · exact startup_probe (p := .flash1) (l := [.part, .part]) hr hpr hh hc hi rfl (by simp)
        (probesEnd_noFlash (s := s.portProbed .flash1 n) hst h0 (probed_notProbing _ n) ha)

/-- Settles O7, its parts one after another. -/
theorem portsFollowDevices : Obligations.PortsFollowDevices :=
  ⟨flashProbeEnds, cardWakes, cardRemoved, cardRemovedUnderReads, waitingClaimRefused, rescanRefusesClaims, probesEndStartUp⟩

end Sys2Proof.Machine
end

section
/-! SUPPORT. The take of a request, the checks every request meets, and what the queries are answered (O37, O38). -/

namespace Sys2Proof.Machine

variable {s u : State} {t : Target} {r : Request} {rest : List Request} {st : Status} {data : List Byte} {kind : Byte} {n : Nat}
  {f : Request → State → State} {pick : Request → Bool} {g : State → State} {order : List ReportId} {i : Instr} {p : Port}

/-! ### The take -/

/-- R170: the state in which the head of the queue has been taken. -/
def State.taken (s : State) (rest : List Request) : State := { s with link := { s.link with queue := rest }, raised := [] }

theorem event_quiet (hr : s.pins.reset = false) (hf : g { s with raised := [] } = u) (hu : u.raised = []) : s.event order g = u := by
  rw [event_running _ _ _ hr, hf, flush_none _ _ hu]
  cases u
  simp_all

theorem taken_reply (s : State) (rest : List Request) (r : Request) (st : Status) (data : List Byte) :
    (s.taken rest).reply r st data = s.answered r rest st data := by
  rw [reply_served rfl]
  rfl

theorem takeRequest_taken (h : s.MayTake r rest) (hp : pick r = true) :
    State.takeRequest pick f { s with raised := [] } = f r (s.taken rest) := by
  obtain ⟨-, hi, hl, hq⟩ := h
  exact takeRequest_take pick f { s with raised := [] } r rest hi hl hq hp

theorem request_taken (h : s.MayTake r rest) (hk : r.kind = kind) (hs : s.store.startup = .ready) (hn : r.payload.length = n) :
    State.request kind n f { s with raised := [] } = f r (s.taken rest) := by
  rw [State.request, takeRequest_taken h (by simpa using hk), gated_sized n f r (s.taken rest) hs hn]

theorem gated_notYet (hs : s.store.startup ≠ .ready) : State.gated f r (s.taken rest) = s.answered r rest .notYet [] := by
  rw [State.gated, if_neg (by exact hs), taken_reply]

theorem sized_badLength (hn : r.payload.length ≠ n) : State.sized n f r (s.taken rest) = s.answered r rest .badLength [] := by
  rw [State.sized, if_neg hn, taken_reply]

/-- R170: an event that answers the request taken, and does no more. -/
theorem event_answered (h : s.MayTake r rest) (hg : g { s with raised := [] } = s.answered r rest st data) :
    s.event order g = s.answered r rest st data := event_quiet h.1 hg rfl

theorem happens_answered (h : s.MayTake r rest) (hg : g { s with raised := [] } = s.answered r rest st data) :
    happens g s = .next (s.answered r rest st data) := congrArg _ (event_answered h hg)

/-! ### The rows of the requests (R170, R150, R191) -/

/-- A request row is gated and sized, or served in every start-up state, or one of TARGET LINE. -/
theorem requestRow_cases (x : Instr × Byte) (hx : x ∈ requestRows) :
    (x.2 ∉ [0x01#8, 0x02#8, 0x10#8] ∧ x.2 ≠ 0x0C#8
      ∧ ∃ order f, ∀ s, exec x.1 s = .next (s.event order (State.request x.2 (payloadLength x.2) f)))
    ∨ (x.2 ∈ [0x01#8, 0x02#8, 0x10#8] ∧ payloadLength x.2 = 0
      ∧ ∃ f, ∀ s, exec x.1 s = happens (State.takeRequest (·.kind = x.2) (State.sized 0 f)) s)
    ∨ (x.2 = 0x0C#8 ∧ ∃ a tdone, ∀ s, exec x.1 s = happens (State.lineCommand a tdone) s) := by
  simp only [requestRows, List.mem_cons, List.not_mem_nil, or_false] at hx
  have gated : ∀ (i : Instr) (kind : Byte) (order : List ReportId) (f : Request → State → State), kind ∉ [0x01#8, 0x02#8, 0x10#8] →
      kind ≠ 0x0C#8 → (∀ s, exec i s = .next (s.event order (State.request kind (payloadLength kind) f))) → x = (i, kind) →
      x.2 ∉ [0x01#8, 0x02#8, 0x10#8] ∧ x.2 ≠ 0x0C#8
        ∧ ∃ order f, ∀ s, exec x.1 s = .next (s.event order (State.request x.2 (payloadLength x.2) f)) := by
    rintro i kind order f h1 h2 h rfl
    exact ⟨h1, h2, order, f, h⟩
  rcases hx with rfl | rfl | hx | hx | hx | hx | hx | hx | hx | hx | hx | rfl | rfl | rfl | rfl | rfl | rfl | hx | hx | hx | rfl
  · exact .inr (.inl ⟨by decide, rfl, _, fun _ => rfl⟩)
  · exact .inr (.inl ⟨by decide, rfl, _, fun _ => rfl⟩)
  · exact .inl (gated _ _ _ _ (by decide) (by decide) (fun _ => rfl) hx)
  · exact .inl (gated _ _ _ _ (by decide) (by decide) (fun _ => rfl) hx)
  · exact .inl (gated _ _ _ _ (by decide) (by decide) (fun _ => rfl) hx)
  · exact .inl (gated _ _ _ _ (by decide) (by decide) (fun _ => rfl) hx)
  · exact .inl (gated _ _ _ _ (by decide) (by decide) (fun _ => rfl) hx)
  · exact .inl (gated _ _ _ _ (by decide) (by decide) (fun _ => rfl) hx)
  · exact .inl (gated _ _ _ _ (by decide) (by decide) (fun _ => rfl) hx)
  · exact .inl (gated _ _ _ _ (by decide) (by decide) (fun _ => rfl) hx)
  · exact .inl (gated _ _ _ _ (by decide) (by decide) (fun _ => rfl) hx)
  · exact .inr (.inr ⟨rfl, .hold, true, fun _ => rfl⟩)
  · exact .inr (.inr ⟨rfl, .hold, false, fun _ => rfl⟩)
  · exact .inr (.inr ⟨rfl, .release, true, fun _ => rfl⟩)
  · exact .inr (.inr ⟨rfl, .release, false, fun _ => rfl⟩)
  · exact .inr (.inr ⟨rfl, .leave, true, fun _ => rfl⟩)
  · exact .inr (.inr ⟨rfl, .leave, false, fun _ => rfl⟩)
  · exact .inl (gated _ _ _ _ (by decide) (by decide) (fun _ => rfl) hx)
  · exact .inl (gated _ _ _ _ (by decide) (by decide) (fun _ => rfl) hx)
  · exact .inl (gated _ _ _ _ (by decide) (by decide) (fun _ => rfl) hx)
  · exact .inr (.inl ⟨by decide, rfl, _, fun _ => rfl⟩)

/-! ### What every request meets (O37) -/

/-- R170: a handler that may not take a request leaves the state. -/
theorem takeRequest_busy (hr : s.pins.reset = false) (h : s.link.handler ≠ .idle ∨ 4 ≤ s.link.replies.length) :
    s.event order (State.takeRequest pick f) = { s with raised := [] } :=
  event_quiet hr (takeRequest_skip pick f { s with raised := [] } h) rfl

theorem busyHandlerTakesNothing : Claims.BusyHandlerTakesNothing := by
  intro s hr h
  refine ⟨fun x hx => ?_, congrArg _ (takeRequest_busy hr h)⟩
  rcases requestRow_cases x hx with ⟨-, -, order, f, e⟩ | ⟨-, -, f, e⟩ | ⟨-, a, tdone, e⟩
  · rw [e]
    exact congrArg _ (takeRequest_busy hr h)
  · rw [e]
    exact congrArg _ (takeRequest_busy hr h)
  · rw [e]
    exact congrArg _ (takeRequest_busy hr h)

/-- R137: a TARGET LINE request whose action is that of the row, or that names none, is taken by the row. -/
theorem lineCommand_taken (h : s.MayTake r rest) (hk : r.kind = 0x0C#8) (a : LineAction) (tdone : Bool)
    (ha : payloadAction r.payload = some a ∨ payloadAction r.payload = none) :
    State.lineCommand a tdone { s with raised := [] } = State.gated (State.sized 2 (State.lineRequest tdone)) r (s.taken rest) := by
  refine takeRequest_taken h ?_
  rw [Bool.and_eq_true, Bool.or_eq_true]
  exact ⟨decide_eq_true hk, ha.imp (fun e => decide_eq_true e) fun e => by rw [e]; rfl⟩

theorem payloadAction_of (a : LineAction) {b : Byte} (hb : lineActionOf b = some a) (h : r.payload.length ≠ 2 ∨ byteAt r.payload 1 = b) :
    payloadAction r.payload = some a ∨ payloadAction r.payload = none := by
  rw [payloadAction]
  split
  · rename_i hn
    exact .inl ((h.resolve_left (absurd hn)) ▸ hb)
  · exact .inr rfl

theorem gatedUntilReady : Claims.GatedUntilReady := by
  intro s r rest h
  refine ⟨fun x hx hk hn hs => ?_, fun hk hs tdone => ?_, fun hk => ⟨fun hs => ?_, fun hs => ?_⟩⟩
  · simp only [List.mem_cons, List.not_mem_nil, or_false, not_or] at hn
    obtain ⟨h1, h2, h10, hc⟩ := hn
    rcases requestRow_cases x hx with ⟨-, -, order, f, e⟩ | ⟨hm, -⟩ | ⟨hm, -⟩
    · rw [e]
      refine congrArg _ (event_answered h ?_)
      rw [State.request, takeRequest_taken h (by simp [hk]), gated_notYet hs]
    · simp [h1, h2, h10] at hm
    · exact absurd hm hc
  · have line : ∀ (a : LineAction) (b : Byte), lineActionOf b = some a → (r.payload.length ≠ 2 ∨ byteAt r.payload 1 = b) →
        happens (State.lineCommand a tdone) s = .next (s.answered r rest .notYet []) := fun a b hb hp =>
      happens_answered h ((lineCommand_taken h hk a tdone (payloadAction_of a hb hp)).trans (gated_notYet hs))
    exact ⟨line .hold _ rfl, line .release _ rfl, line .leave _ rfl⟩
  · have hp : namesRequest r.kind = false := by
      simp [namesRequest]
      omega
    exact happens_answered h ((takeRequest_taken h (by simp [hp])).trans (gated_notYet hs))
  · have hp : namesRequest r.kind = false := by
      simp [namesRequest]
      omega
    refine happens_answered h ((takeRequest_taken h (by simp [hp])).trans ?_)
    rw [State.gated, if_pos (by exact hs), taken_reply]

theorem gated_ready (hs : s.store.startup = .ready) : State.gated f r (s.taken rest) = f r (s.taken rest) := by
  rw [State.gated, if_pos (by exact hs)]

theorem wrongLengthRefused : Claims.WrongLengthRefused := by
  intro s r rest h hs hn x hx hk
  rcases requestRow_cases x hx with ⟨hm, hc, order, f, e⟩ | ⟨hm, hz, f, e⟩ | ⟨hm, a, tdone, e⟩
  · rw [e]
    refine congrArg _ (event_answered h ?_)
    rw [State.request, takeRequest_taken h (by simp [hk]), gated_ready (hs.resolve_right (hk ▸ hm)), sized_badLength (hk ▸ hn)]
  · rw [e]
    refine happens_answered h ?_
    rw [takeRequest_taken h (by simp [hk]), sized_badLength (by rw [← hz, hk]; exact hn)]
  · rw [e]
    have hk' : r.kind = 0x0C#8 := hk ▸ hm
    have hl : r.payload.length ≠ 2 := by rw [hk'] at hn; exact hn
    refine happens_answered h ?_
    rw [lineCommand_taken h hk' a tdone (.inr (if_neg hl)), gated_ready (hs.resolve_right (by rw [hk']; decide)), sized_badLength hl]

theorem lineActionOf_none {b : Byte} (h : 2 < b.toNat) : lineActionOf b = none := by
  rw [lineActionOf, if_neg (by rintro rfl; simp at h), if_neg (by rintro rfl; simp at h), if_neg (by rintro rfl; simp at h)]

theorem parsed_none {α : Type} {k : α → State} : State.parsed none k r (s.taken rest) = s.answered r rest .badValue [] :=
  taken_reply s rest r .badValue []

theorem badTargetRefused : Claims.BadTargetRefused := by
  intro s r rest h hs
  refine ⟨fun b hk hp hb => ?_, fun b a tdone hk hp hba => ?_⟩
  · refine congrArg _ (event_answered h ?_)
    refine (request_taken (kind := kAbort) h hk hs (by rw [hp]; rfl)).trans ?_
    rw [hp, show targetOf (byteAt [b] 0) = none from targetOf_none hb, parsed_none]
  · have refused : State.lineRequest tdone r (s.taken rest) = s.answered r rest .badValue [] := by
      have first : byteAt r.payload 0 = b := by rw [hp]; rfl
      have second : byteAt r.payload 1 = a := by rw [hp]; rfl
      rw [State.lineRequest, first, second]
      rcases hba with hb | ha
      · rw [targetOf_none hb]
        exact taken_reply s rest r .badValue []
      · rw [lineActionOf_none ha]
        cases targetOf b with
        | none => exact taken_reply s rest r .badValue []
        | some t => exact taken_reply s rest r .badValue []
    have line : ∀ (y : LineAction) (c : Byte), lineActionOf c = some y → (a = c ∨ 2 < a.toNat) →
        happens (State.lineCommand y tdone) s = .next (s.answered r rest .badValue []) := by
      intro y c hc ha
      refine happens_answered h ?_
      rw [lineCommand_taken h hk y tdone ?_, gated_sized 2 _ r (s.taken rest) hs (by rw [hp]; rfl), refused]
      have action : payloadAction r.payload = lineActionOf a := by rw [hp]; rfl
      rw [action]
      exact ha.imp (fun e => by rw [e, hc]) lineActionOf_none
    exact ⟨line .hold _ rfl, line .release _ rfl, line .leave _ rfl⟩

/-- Settles O37, its parts one after another. -/
theorem requestsCheckedInOrder : Obligations.RequestsCheckedInOrder :=
  ⟨busyHandlerTakesNothing, gatedUntilReady, wrongLengthRefused, badTargetRefused⟩

end Sys2Proof.Machine
end

section
/-! SUPPORT. The bytes of records, status records and reports by offsets, and what the queries answer (O38). -/

namespace Sys2Proof.Machine

variable {s u : State} {t : Target} {r : Request} {rest : List Request}

/-! ### Records and reports of one length -/

theorem recordLayouts : Claims.RecordLayouts :=
  ⟨fun _ => ⟨rfl, rfl, rfl⟩, fun _ => ⟨rfl, rfl, rfl, rfl, rfl, rfl⟩, fun _ => ⟨rfl, rfl, rfl, rfl, rfl⟩⟩

theorem partStatusLayout : Claims.PartStatusLayout := by
  intro s b
  refine ⟨rfl, rfl, rfl, ?_, rfl, ?_, ?_, rfl, rfl, rfl, rfl⟩
  · show le 4 (match s.store.generation with | some g => g.toNat | none => 0) = _
    cases s.store.generation <;> rfl
  · simp only [List.mem_cons, List.not_mem_nil, or_false]
    rintro x (rfl | rfl | rfl | rfl) <;> rfl
  · simp only [List.mem_cons, List.not_mem_nil, or_false]
    rintro x (rfl | rfl) <;> rfl

/-! ### WANT reports (R122) -/

theorem insertAscending_perm (n : Nat) (ms : List Nat) : (insertAscending n ms).Perm (n :: ms) := by
  induction ms with
  | nil => exact .refl _
  | cons m ms ih =>
    rw [insertAscending]
    split
    · exact .refl _
    · exact (ih.cons m).trans (.swap ..)

theorem insertAscending_sorted (n : Nat) (ms : List Nat) (h : ms.Pairwise (· ≤ ·)) : (insertAscending n ms).Pairwise (· ≤ ·) := by
  induction ms with
  | nil => simp [insertAscending]
  | cons m ms ih =>
    obtain ⟨hm, hms⟩ := List.pairwise_cons.1 h
    rw [insertAscending]
    split
    · rename_i hle
      exact List.pairwise_cons.2 ⟨fun x hx => (List.mem_cons.1 hx).elim (fun e => e ▸ hle) fun hx => hle.trans (hm x hx), h⟩
    · rename_i hlt
      refine List.pairwise_cons.2 ⟨fun x hx => ?_, ih hms⟩
      rcases List.mem_cons.1 ((insertAscending_perm n ms).mem_iff.1 hx) with rfl | hx
      · exact Nat.le_of_not_le hlt
      · exact hm x hx

/-- R122: the blocks are sorted, and none is lost. -/
theorem foldr_insertAscending (ns : List Nat) :
    (ns.foldr insertAscending []).Pairwise (· ≤ ·) ∧ (ns.foldr insertAscending []).Perm ns := by
  induction ns with
  | nil => exact ⟨.nil, .refl _⟩
  | cons n ns ih =>
    obtain ⟨hs, hp⟩ := ih
    exact ⟨insertAscending_sorted n _ hs, (insertAscending_perm n _).trans (hp.cons n)⟩

theorem reportLayouts : Claims.ReportLayouts := by
  refine ⟨fun x => ⟨rfl, rfl, rfl, rfl, rfl, rfl, ?_⟩, fun x => ⟨?_, rfl, fun i n hi => ?_⟩, fun e n => ?_,
    fun s t => foldr_insertAscending _⟩
  · show le 4 (match x.version with | some v => v.toNat | none => 0) = _
    cases x.version <;> rfl
  · show ([_, _, _] ++ x.blocks.flatMap (le 2)).length = _
    rw [List.length_append, flatMap_length (le 2) 2 _ fun _ _ => rfl]
    rfl
  · show bytesAt ([_, _, _] ++ x.blocks.flatMap (le 2)) (3 + 2 * i) 2 = _
    rw [bytesAt_append_right _ _ (i := 2 * i) (by rfl)]
    have := bytesAt_records (le 2) 2 [] x.blocks i n (fun _ _ => rfl) hi
    rwa [List.append_nil] at this
  · cases h : e.id <;> rw [reportFrame, h] <;> rfl

/-! ### JOB STATUS (R27) -/

theorem descriptorBytes_length {x : Option Descriptor} (h : ∀ d, x = some d → d.label.length = 10) : (descriptorBytes x).length = 25 := by
  cases x with
  | none => rfl
  | some d => simp [descriptorBytes, h d rfl]

/-- 11.5: the bytes of a candidate entry. -/
def Candidate.bytes (x : Candidate) : List Byte := positionCode x.position :: (le 4 x.version.toNat ++ le 4 x.length)

/-- 11.5: the bytes of a log entry. -/
def LogEntry.bytes (e : LogEntry) : List Byte := le 2 e.pass ++ [positionCode e.position, phaseCode e.phase, outcomeCode e.outcome]

/-- 11.5: the first 18 bytes of the JOB STATUS data. -/
def Job.statusHead (x : JobSlot) (j : Job) : List Byte :=
  [originCode j.origin, markCode j.relaxed, optCode positionCode j.only, u8 j.passLimit, jobStateCode j.state] ++ le 2 j.pass
    ++ [optCode positionCode j.position, optCode phaseCode j.phase, j.tag] ++ le 4 j.delivered
    ++ [optCode outcomeCode j.lastOutcome, optCode finalCode j.final, markCode j.abortPending, conditionCode x.condition]

/-- 11.5: the head, the descriptor, and the two lists behind their counts. -/
theorem jobStatusBytes_eq (x : JobSlot) (j : Job) : jobStatusBytes x j = Job.statusHead x j ++ (descriptorBytes x.descriptor
    ++ ([u8 j.candidates.length] ++ (j.candidates.flatMap Candidate.bytes ++ ([u8 j.log.length] ++ j.log.flatMap LogEntry.bytes)))) := by
  simp only [jobStatusBytes, Job.statusHead, List.append_assoc, List.cons_append, List.nil_append]
  rfl

theorem candidates_length (xs : List Candidate) : (xs.flatMap Candidate.bytes).length = 9 * xs.length :=
  flatMap_length Candidate.bytes 9 xs fun _ _ => rfl

theorem log_length (es : List LogEntry) : (es.flatMap LogEntry.bytes).length = 5 * es.length :=
  flatMap_length LogEntry.bytes 5 es fun _ _ => rfl

theorem jobStatusLayout : Claims.JobStatusLayout := by
  intro x j hd b c
  have hl : (descriptorBytes x.descriptor).length = 25 := descriptorBytes_length hd
  have hb : b = _ := jobStatusBytes_eq x j
  have tail : ∀ i k, bytesAt b (43 + i) k = bytesAt ([u8 c] ++ (j.candidates.flatMap Candidate.bytes ++ ([u8 j.log.length]
      ++ j.log.flatMap LogEntry.bytes))) i k := fun i k => by
    rw [hb, bytesAt_append_right _ _ (i := 25 + i) (by show _ = 18 + _; omega), bytesAt_append_right _ _ (i := i) (by rw [hl])]
  have tailByte : ∀ i, byteAt b (43 + i) = byteAt ([u8 c] ++ (j.candidates.flatMap Candidate.bytes ++ ([u8 j.log.length]
      ++ j.log.flatMap LogEntry.bytes))) i := fun i => by
    rw [hb, byteAt_append_right _ _ (i := 25 + i) (by show _ = 18 + _; omega), byteAt_append_right _ _ (i := i) (by rw [hl])]
  have desc : ∀ i k, i + k ≤ 25 → bytesAt b (18 + i) k = bytesAt (descriptorBytes x.descriptor) i k := fun i k h => by
    rw [hb, bytesAt_append_right _ _ (i := i) (by rfl), bytesAt_append_left (by omega)]
  refine ⟨?_, rfl, rfl, rfl, rfl, rfl, fun h => ?_, fun d h => ?_, tailByte 0, fun i y hi => ?_, ?_, fun i y hi => ?_⟩
  · rw [hb]
    simp only [List.length_append, hl, candidates_length, log_length, List.length_singleton]
    show 18 + _ = _
    omega
  · rw [desc 0 25 (by omega), h]
    rfl
  · have label : bytesAt (descriptorBytes (some d)) 15 10 = d.label := List.take_of_length_le (by
      show d.label.length ≤ 10
      rw [hd d h])
    refine ⟨(desc 0 3 (by omega)).trans ?_, (desc 3 4 (by omega)).trans ?_, (desc 7 4 (by omega)).trans ?_,
      (desc 11 4 (by omega)).trans ?_, (desc 15 10 (by omega)).trans ?_⟩
    all_goals rw [h]
    · rfl
    · rfl
    · rfl
    · rfl
    · exact label
  · rw [show 44 + 9 * i = 43 + (1 + 9 * i) by omega, tail, bytesAt_append_right _ _ (i := 9 * i) (by rfl)]
    exact bytesAt_records Candidate.bytes 9 _ _ i y (fun _ _ => rfl) hi
  · rw [show 44 + 9 * c = 43 + (1 + 9 * c) by omega, tailByte, byteAt_append_right _ _ (i := 9 * c) (by rfl),
      byteAt_append_right _ _ (i := 0) (by rw [candidates_length]; rfl)]
    rfl
  · rw [show 45 + 9 * c + 5 * i = 43 + (1 + (9 * c + (1 + 5 * i))) by omega, tail,
      bytesAt_append_right _ _ (i := 9 * c + (1 + 5 * i)) (by rfl),
      bytesAt_append_right _ _ (i := 1 + 5 * i) (by rw [candidates_length]), bytesAt_append_right _ _ (i := 5 * i) (by rfl)]
    have := bytesAt_records LogEntry.bytes 5 [] j.log i y (fun _ _ => rfl) hi
    rwa [List.append_nil] at this

theorem codesFollowTable : Claims.CodesFollowTable := by
  refine ⟨rfl, rfl, rfl, rfl, rfl, rfl, fun t => ?_, fun p => ?_, rfl, rfl, rfl, rfl, rfl, rfl, rfl, rfl, rfl, rfl, rfl, rfl, rfl,
    fun _ _ => ⟨rfl, fun _ => rfl⟩⟩
  · cases t <;> rfl
  · cases p <;> rfl

/-! ### The queries -/

section
variable {kind : Byte} {n : Nat} {α : Type} {k : α → State} {f : Request → State → State} {st : Status} {data : List Byte}

/-- R170: a request row after READY whose rule answers the request. -/
theorem happens_request (h : s.MayTake r rest) (hk : r.kind = kind) (hs : s.store.startup = .ready) (hn : r.payload.length = n)
    (hf : f r (s.taken rest) = s.answered r rest st data) : happens (State.request kind n f) s = .next (s.answered r rest st data) :=
  happens_answered h ((request_taken h hk hs hn).trans hf)

/-- The same for a rule that changes more of the state. -/
theorem happens_request_next (h : s.MayTake r rest) (hk : r.kind = kind) (hs : s.store.startup = .ready) (hn : r.payload.length = n)
    (hf : f r (s.taken rest) = u) (hu : u.raised = []) : happens (State.request kind n f) s = .next u :=
  happens_quiet _ _ _ h.1 ((request_taken h hk hs hn).trans hf) hu

theorem happens_request_part (h : s.MayTake r rest) (hk : r.kind = kind) (hs : s.store.startup = .ready) (hn : r.payload.length = n)
    (hf : f r (s.taken rest) = { u with raised := [.part] }) (hu : u.raised = []) :
    happens (State.request kind n f) s = .next u.withPartReport :=
  happens_part h.1 ((request_taken h hk hs hn).trans hf) hu (by simp)

theorem happens_request_job {j : Job} (h : s.MayTake r rest) (hk : r.kind = kind) (hs : s.store.startup = .ready)
    (hn : r.payload.length = n) (hf : f r (s.taken rest) = { u with raised := [.job t] }) (hu : u.raised = []) (hj : u.job t = some j) :
    happens (State.request kind n f) s = .next (u.withJobReport t j) :=
  happens_job h.1 ((request_taken h hk hs hn).trans hf) hu hj (by simp)

theorem parsed_badValue {x : Option α} (h : x = none) : State.parsed x k r (s.taken rest) = s.answered r rest .badValue [] := by
  rw [h]
  exact parsed_none

theorem parsed_some {x : Option α} {a : α} (h : x = some a) : State.parsed x k r u = k a := by
  rw [h]
  rfl

end

theorem payload_one {b : Byte} (h : r.payload = [b]) : byteAt r.payload 0 = b ∧ r.payload.length = 1 := by
  rw [h]
  exact ⟨rfl, rfl⟩

theorem payload_target (h : r.payload = [targetCode t]) : targetOf (byteAt r.payload 0) = some t ∧ r.payload.length = 1 := by
  obtain ⟨hb, hl⟩ := payload_one h
  exact ⟨by rw [hb, targetOf_targetCode], hl⟩

theorem payload_noTarget {b : Byte} (h : r.payload = [b]) (hb : 5 < b.toNat) :
    targetOf (byteAt r.payload 0) = none ∧ r.payload.length = 1 := by
  obtain ⟨he, hl⟩ := payload_one h
  exact ⟨by rw [he, targetOf_none hb], hl⟩

theorem queriesAnswered : Claims.QueriesAnswered := by
  intro s r rest h
  have query : ∀ st data, (s.taken rest).reply r st data = s.answered r rest st data := taken_reply s rest r
  refine ⟨fun hk hp => ?_, fun hk hp => ?_, fun hs => ⟨fun p hk hp => ?_, fun b hk hp hb => ?_, fun t hk hp => ?_, fun b hk hp hb => ?_,
    fun hk hp => ?_, fun t j hk hp hj => ?_, fun t hk hp hj => ?_, fun b hk hp hb => ?_⟩⟩
  · refine happens_answered h ((takeRequest_taken h (by simp [hk, kIdentify])).trans ?_)
    rw [State.sized, if_pos (by rw [hp]; rfl)]
    exact query _ _
  · refine happens_answered h ((takeRequest_taken h (by simp [hk, kPartStatus])).trans ?_)
    rw [State.sized, if_pos (by rw [hp]; rfl)]
    exact query _ _
  · obtain ⟨he, hl⟩ := payload_one hp
    exact happens_request h hk hs hl ((parsed_some (by rw [he, positionOf_positionCode])).trans (query _ _))
  · obtain ⟨he, hl⟩ := payload_one hp
    exact happens_request h hk hs hl (parsed_badValue (by rw [he, positionOf_none hb]))
  · obtain ⟨ht, hl⟩ := payload_target hp
    exact happens_request h hk hs hl ((parsed_some ht).trans (query _ _))
  · obtain ⟨ht, hl⟩ := payload_noTarget hp hb
    exact happens_request h hk hs hl (parsed_badValue ht)
  · exact happens_request h hk hs (by rw [hp]; rfl) (query _ _)
  · obtain ⟨ht, hl⟩ := payload_target hp
    refine happens_request h hk hs hl ((parsed_some ht).trans ?_)
    rw [State.jobStatus, show (s.taken rest).job t = some j from hj]
    exact query _ _
  · obtain ⟨ht, hl⟩ := payload_target hp
    refine happens_request h hk hs hl ((parsed_some ht).trans ?_)
    rw [State.jobStatus, show (s.taken rest).job t = none from hj]
    exact query _ _
  · obtain ⟨ht, hl⟩ := payload_noTarget hp hb
    exact happens_request h hk hs hl (parsed_badValue ht)

/-- Settles O38, its parts one after another. -/
theorem queriesAreAnswered : Obligations.QueriesAreAnswered :=
  ⟨queriesAnswered, recordLayouts, partStatusLayout, jobStatusLayout, reportLayouts, codesFollowTable⟩

end Sys2Proof.Machine
end

section
/-! SUPPORT. The requests that edit the setup, create a job, act on a line or a port (O39, O40, O42, O43). -/

namespace Sys2Proof.Machine

variable {s u : State} {t : Target} {r : Request} {rest : List Request} {p : Port} {a : Nat}

/-! ### The live setup (R32, R33, R3, R4, R111, R16) -/

theorem edit_eq (x : SetupStore) (new : Setup) : x.edit new = editedStore x new := by
  unfold SetupStore.edit editedStore
  split <;> rfl

theorem moves_false {x : Settings} (h : ∀ t, s.busy t = true → x.classMap (s.record t).cls = s.settings.classMap (s.record t).cls) :
    s.moves x = false := by
  rw [State.moves, List.any_eq_false]
  intro t _
  by_cases hb : s.busy t = true
  · simp [h t hb]
  · simp [hb]

theorem moves_true {x : Settings} (hb : s.busy t = true) (h : x.classMap (s.record t).cls ≠ s.settings.classMap (s.record t).cls) :
    s.moves x = true := by
  rw [State.moves, List.any_eq_true]
  exact ⟨t, by cases t <;> decide, by simp [hb, h]⟩

/-- Settles O39: an edit goes through `SetupStore.edit`, and a refusal answers alone. -/
theorem setupIsEdited : Obligations.SetupIsEdited := by
  intro s r rest h hs
  have edited : ∀ (new : Setup) (st : Status) (data : List Byte),
      State.reply ((s.taken rest).updStore fun x => x.edit new) r st data
        = ({ s with store := editedStore s.store new } : State).answered r rest st data := fun new st data => by
    rw [reply_served rfl]
    simp only [State.updStore, edit_eq]
    rfl
  refine ⟨fun hk hl => ⟨fun p e hp => ?_, fun hp => ?_⟩, fun hk hl => ⟨fun t x hp hb => ?_, fun t x hp hb => ?_, fun hp => ?_⟩,
    fun hk hl => ⟨fun x hp hm => ?_, fun x t hp hb hm => ?_, fun hp => ?_⟩⟩
  · exact happens_request_next h hk hs hl ((parsed_some hp).trans (edited _ _ _)) rfl
  · exact happens_request h hk hs hl (parsed_badValue hp)
  · refine happens_request_next h hk hs hl ((parsed_some hp).trans ?_) rfl
    exact (if_neg (by rw [show (s.taken rest).busy t = false from hb]; simp)).trans (edited _ _ _)
  · refine happens_request h hk hs hl ((parsed_some hp).trans ?_)
    exact (if_pos hb).trans (taken_reply ..)
  · exact happens_request h hk hs hl (parsed_badValue hp)
  · refine happens_request_next h hk hs hl ((parsed_some hp).trans ?_) rfl
    exact (if_neg (by rw [show (s.taken rest).moves x = false from moves_false hm]; simp)).trans (edited _ _ _)
  · refine happens_request h hk hs hl ((parsed_some hp).trans ?_)
    exact (if_pos (moves_true hb hm)).trans (taken_reply ..)
  · exact happens_request h hk hs hl (parsed_badValue hp)

/-! ### PEEK and RESCAN (R106 to R109) -/

theorem peekPlacesClaim : Claims.PeekPlacesClaim := by
  intro s r rest h hs hk hl
  have refuses : ∀ p a, State.refuses ((s.taken rest).serve r (.peek p a)) p = s.refuses p := fun _ _ => rfl
  refine ⟨fun p a hp hf => ?_, fun p a hp hf => ?_, fun hp => happens_request h hk hs hl (parsed_badValue hp)⟩
  · refine happens_request_next h hk hs hl ((parsed_some hp).trans ?_) rfl
    rw [State.peek]
    dsimp only
    rw [refuses, hf, if_neg (by simp)]
    rfl
  · refine happens_request h hk hs hl ((parsed_some hp).trans ?_)
    rw [State.peek]
    dsimp only
    rw [refuses, hf, if_pos rfl, State.refusePeek, replyPeek_eq (r := r) (a := a) rfl, reply_served rfl]
    rfl

theorem portOf_above {b : Byte} (h : 2 < b.toNat) : portOf b = some .host ∨ portOf b = none := by
  rw [portOf, if_neg (by rintro rfl; simp at h), if_neg (by rintro rfl; simp at h), if_neg (by rintro rfl; simp at h)]
  split
  · exact .inl rfl
  · exact .inr rfl

theorem rescanByPortState : Claims.RescanByPortState := by
  intro s r rest h hs hk
  have sized : ∀ {b : Byte}, r.payload = [b] → r.payload.length = 1 := fun hp => (payload_one hp).2
  have parsed : ∀ {b : Byte}, r.payload = [b] → parseRescan r.payload = parseRescan [b] := fun hp => by rw [hp]
  have starts : ∀ (q : Port) (v : State), r.payload = [portCode q] → parseRescan [portCode q] = some q →
      (s.taken rest).rescan r q = { v with raised := [.part] } → v.raised = [] → exec .rescan s = .next v.withPartReport := by
    intro q v hp hq hv hr
    exact happens_request_part (kind := kRescan) h hk hs (sized hp) ((parsed_some ((parsed hp).trans hq)).trans hv) hr
  have answers : ∀ (q : Port) (st : Status), r.payload = [portCode q] → parseRescan [portCode q] = some q →
      (s.taken rest).rescan r q = (s.taken rest).reply r st [] → exec .rescan s = .next (s.answered r rest st []) := by
    intro q st hp hq hv
    exact happens_request (kind := kRescan) h hk hs (sized hp) ((parsed_some ((parsed hp).trans hq)).trans (hv.trans (taken_reply ..)))
  refine ⟨fun p hp hpay => ⟨fun hu => ?_, fun hu hst => ?_⟩, fun hpay => ⟨fun hst => ?_, fun hst => ?_, fun hst hu => ?_, fun hst hu => ?_⟩,
    fun b hpay hb => happens_request (kind := kRescan) h hk hs (sized hpay) (parsed_badValue ((parsed hpay).trans ?_))⟩
  · have inUse : (s.taken rest).rescan r p = (s.taken rest).reply r .inUse [] := by
      rcases hp with rfl | rfl <;> exact if_pos hu
    exact answers p .inUse hpay (by rcases hp with rfl | rfl <;> rfl) inUse
  · refine starts p { s with
      link := { s.link with queue := rest, handler := .serving r (.rescan p) }
      ports := s.ports.set p { s.ports.get p with state := .probing }
      raised := [] } hpay (by rcases hp with rfl | rfl <;> rfl) ?_ rfl
    have hne : ((s.taken rest).ports.get p).state ≠ .probing := by
      rcases hst with e | e <;> rw [show ((s.taken rest).ports.get p).state = _ from e] <;> simp
    have start : (s.taken rest).rescan r p = ((s.taken rest).setPortState p .probing).serve r (.rescan p) := by
      rcases hp with rfl | rfl <;> exact if_neg (by rw [show (s.taken rest).portInUse _ = false from hu]; simp)
    rw [start, setPortState_new hne]
    rfl
  · exact answers .card .noPort hpay rfl (by rw [State.rescan, show ((s.taken rest).ports.get .card).state = .empty from hst])
  · exact answers .card .busy hpay rfl (by rw [State.rescan, show ((s.taken rest).ports.get .card).state = .waking from hst])
  · refine answers .card .inUse hpay rfl ?_
    rw [State.rescan, show ((s.taken rest).ports.get .card).state = .ready from hst]
    exact if_pos hu
  · refine starts .card { s with
      link := { s.link with queue := rest, handler := .serving r (.rescan .card) }
      ports := { s.ports with card := { s.ports.card with state := .waking, capacity := 0 } }
      raised := [] } hpay rfl ?_ rfl
    have hne : ((s.taken rest).ports.get .card).state ≠ .waking := by
      rcases hst with e | e <;> rw [show ((s.taken rest).ports.get .card).state = _ from e] <;> simp
    have start : (s.taken rest).rescan r .card
        = (((s.taken rest).setPortState .card .waking).setCapacity .card 0).serve r (.rescan .card) := by
      rcases hst with e | e <;> rw [State.rescan, show ((s.taken rest).ports.get .card).state = _ from e] <;>
        exact if_neg (by rw [show (s.taken rest).portInUse _ = false from hu]; simp)
    rw [start, portEnds_eq hne]
    rfl
  · rw [parseRescan, byteAt_cons_zero]
    rcases portOf_above hb with e | e <;> rw [e]

/-- Settles O43, its two parts one after another. -/
theorem portRequests : Obligations.PortRequests := ⟨peekPlacesClaim, rescanByPortState⟩

/-! ### LOAD (R18, R19, R9) -/

/-- R7, R8, R9: the record of a job created for the target, FAILED where its effective candidate set is empty. -/
def State.createdJob (s : State) (t : Target) (o : Origin) (relaxed : Bool) (only : Option Position) : Job :=
  { newJob o relaxed only (if only.isSome then 1 else (s.record t).passLimit)
      (match s.job t with
        | some j => j.tag
        | none => 0#8) (s.effectiveSet t only) with
    state := if (s.effectiveSet t only).isEmpty then .failed else .queued
    final := if (s.effectiveSet t only).isEmpty then some .noSources else none }

/-- R9, R14, R127: what the creation of a job makes of the state. -/
theorem createJob_eq (s : State) (t : Target) (o : Origin) (relaxed : Bool) (only : Option Position) :
    s.createJob t o relaxed only = { s with
      jobs := s.jobs.set t { s.jobs.get t with
        condition := if (s.jobs.get t).condition = .loaded then .none else (s.jobs.get t).condition
        job := some (s.createdJob t o relaxed only) }
      queues := if (s.effectiveSet t only).isEmpty then s.queues
        else s.queues.set (s.settings.classMap (s.record t).cls) (insertByClass (fun u => (s.record u).cls) t
          (s.queues.get (s.settings.classMap (s.record t).cls)))
      lines := s.lines.set t (s.lines.get t).assert
      raised := .job t :: s.raised } := by
  unfold State.createJob State.createdJob
  dsimp only
  split
  · simp [State.finishJob, State.updJob, State.updSlot, State.assertLine, State.updLine, State.raise, newJob] <;> rfl
  · rfl

/-- Settles O40: a refusal answers alone, and an accepted LOAD is `createJob_eq` with its reply. -/
theorem loadCreatesJob : Obligations.LoadCreatesJob := by
  intro s r rest h hs hk hl
  refine ⟨fun hp => happens_request h hk hs hl (parsed_badValue hp), fun x hp hx => ?_, fun x hp hx hb => ?_, ?_⟩
  · refine happens_request h hk hs hl ((parsed_some hp).trans ?_)
    exact (if_pos (by rw [show (s.taken rest).record x.target = s.record x.target from rfl, hx]; rfl)).trans (taken_reply ..)
  · refine happens_request h hk hs hl ((parsed_some hp).trans ?_)
    rw [State.load, if_neg (by rw [show (s.taken rest).record x.target = s.record x.target from rfl, hx]; simp), if_pos (by exact hb)]
    exact taken_reply ..
  · intro t relaxed only hp hx hb tag set failed j c
    have hset : (s.taken rest).effectiveSet t only = set := by cases only <;> rfl
    have hj : (s.taken rest).createdJob t .host relaxed only = j := by
      rw [State.createdJob, hset]
      rfl
    refine happens_request_job h hk hs hl ((parsed_some hp).trans ?_) rfl (by simp [State.answered, State.job])
    rw [State.load, if_neg (by rw [show (s.taken rest).record t = s.record t from rfl, hx]; simp), if_neg (by
      rw [show (s.taken rest).busy t = false from hb]; simp)]
    dsimp only
    rw [createJob_eq, hset, hj, reply_eq]
    have reply : State.loadReply { s.taken rest with
        jobs := s.jobs.set t { s.jobs.get t with
          condition := if (s.jobs.get t).condition = .loaded then .none else (s.jobs.get t).condition, job := some j } } t
        = [if failed then 7#8 else 0#8, if failed then 2#8 else 0xFF#8, tag] := by
      rw [State.loadReply, State.job, PerTarget.get_set_same]
      show [jobStateCode (if failed then .failed else .queued), optCode finalCode (if failed then some .noSources else none), tag] = _
      cases failed <;> rfl
    rw [← reply]
    rfl

/-! ### TARGET LINE (R137 to R139) -/

/-- R132, R137: the state in which the request has been taken and the level of TDONE is known. -/
def State.lineTaken (s : State) (rest : List Request) (t : Target) (tdone : Bool) : State :=
  (s.taken rest).updPins fun y => { y with tdone := y.tdone.set t tdone }

theorem setCondition_same {x : Condition} (h : (s.jobs.get t).condition = x) : s.setCondition t x = s := by
  rw [State.setCondition, if_pos h]

theorem setCondition_new {x : Condition} (h : (s.jobs.get t).condition ≠ x) : s.setCondition t x
    = { s with jobs := s.jobs.set t { s.jobs.get t with condition := x }, raised := .job t :: s.raised } := by
  rw [State.setCondition, if_neg h]
  rfl

section
variable {a : Byte} {x : LineAction} {tdone : Bool} (h : s.MayTake r rest) (hs : s.store.startup = .ready) (hk : r.kind = 0x0C#8)
  (hp : r.payload = [targetCode t, a]) (ha : lineActionOf a = some x)
include h hs hk hp ha

/-- R137: a TARGET LINE request in its ranges reaches its row's rule. -/
theorem lineCommand_served : State.lineCommand x tdone { s with raised := [] }
    = if s.busy t then s.answered r rest .inUse []
      else ((s.lineTaken rest t tdone).lineAct t x).reply r .ok (((s.lineTaken rest t tdone).lineAct t x).lineReply t) := by
  have first : targetOf (byteAt r.payload 0) = some t := by rw [hp]; exact targetOf_targetCode t
  have second : byteAt r.payload 1 = a := by rw [hp]; rfl
  have hl : r.payload.length = 2 := by rw [hp]; rfl
  rw [lineCommand_taken h hk x tdone (payloadAction_of x ha (.inr second)), gated_sized 2 _ r (s.taken rest) hs hl, State.lineRequest,
    first, second, ha]
  dsimp only
  rw [taken_reply]
  rfl

theorem lineCommand_inUse (hb : s.busy t = true) : happens (State.lineCommand x tdone) s = .next (s.answered r rest .inUse []) :=
  happens_answered h ((lineCommand_served h hs hk hp ha).trans (if_pos hb))

theorem lineCommand_free (hb : s.busy t = false) : State.lineCommand x tdone { s with raised := [] }
    = ((s.lineTaken rest t tdone).lineAct t x).reply r .ok (((s.lineTaken rest t tdone).lineAct t x).lineReply t) :=
  (lineCommand_served h hs hk hp ha).trans (if_neg (by simp [hb]))

end

/-- R137: the reply data of a TARGET LINE. -/
theorem lineReply_eq (u : State) (t : Target) {line : TargetPort} {x : Condition} {tdone : Bool} (hl : u.lines.get t = line)
    (ht : u.pins.tdone.get t = tdone) (hc : (u.jobs.get t).condition = x) : u.lineReply t
      = [lineCode line.line, markCode (u.pins.trdy.get t), markCode tdone, markCode (u.pins.tflt.get t), conditionCode x] := by
  rw [State.lineReply, hl, ht, hc]

/-- Settles O42: each action on the state with TDONE known, and the reply from what it makes of it. -/
theorem targetLineActs : Obligations.TargetLineActs := by
  intro s r rest t tdone a h hs hk hp pins reply held released
  refine ⟨fun hb => ⟨fun ha => ?_, fun ha => ?_, fun ha => ?_⟩, fun hb ha hc => ?_, fun j hb ha hc hj => ?_, fun hb ha => ?_,
    fun hb ha => ?_⟩
  · exact lineCommand_inUse h hs hk hp (by rw [ha]; rfl) hb
  · exact lineCommand_inUse h hs hk hp (by rw [ha]; rfl) hb
  · exact lineCommand_inUse h hs hk hp (by rw [ha]; rfl) hb
  · have act : (s.lineTaken rest t tdone).lineAct t .hold = (s.lineTaken rest t tdone).assertLine t :=
      setCondition_same (s := (s.lineTaken rest t tdone).assertLine t) hc
    refine happens_quiet _ _ _ h.1 ((lineCommand_free h hs hk hp (by rw [ha]; rfl) hb).trans ?_) rfl
    rw [act, reply_served rfl, lineReply_eq _ t (line := held) (x := .none) (tdone := tdone)]
    · rfl
    · simp [State.lineTaken, State.taken, held]
    · simp [State.lineTaken]
    · exact hc
  · have act : (s.lineTaken rest t tdone).lineAct t .hold = { (s.lineTaken rest t tdone).assertLine t with
        jobs := s.jobs.set t { s.jobs.get t with condition := .none }, raised := [.job t] } :=
      setCondition_new (s := (s.lineTaken rest t tdone).assertLine t) hc
    refine happens_job (l := [.job t]) h.1 ((lineCommand_free h hs hk hp (by rw [ha]; rfl) hb).trans ?_) rfl
      (by simpa [State.answered, State.job] using hj) (by simp)
    rw [act, reply_eq, lineReply_eq _ t (line := held) (x := .none) (tdone := tdone)]
    · rfl
    · simp [State.lineTaken, State.taken, held]
    · simp [State.lineTaken]
    · simp
  · have act : (s.lineTaken rest t tdone).lineAct t .release = (s.lineTaken rest t tdone).releaseLine t := rfl
    refine happens_quiet _ _ _ h.1 ((lineCommand_free h hs hk hp (by rw [ha]; rfl) hb).trans ?_) rfl
    rw [act, reply_served rfl, lineReply_eq _ t (line := released) (x := (s.jobs.get t).condition) (tdone := tdone)]
    · rfl
    · simp [State.lineTaken, State.taken, released, State.releaseLine, State.updLine]
      rfl
    · simp [State.lineTaken]
    · rfl
  · refine happens_quiet _ _ _ h.1 ((lineCommand_free (x := .leave) h hs hk hp (by rw [ha]; rfl) hb).trans ?_) rfl
    have act : (s.lineTaken rest t tdone).lineAct t .leave = s.lineTaken rest t tdone := rfl
    rw [act, reply_served rfl, lineReply_eq (s.lineTaken rest t tdone) t (line := s.lines.get t)
      (x := (s.jobs.get t).condition) (tdone := tdone)]
    · rfl
    · rfl
    · simp [State.lineTaken]
    · rfl

end Sys2Proof.Machine
end

section
/-! SUPPORT. Saves: how one starts, goes on and ends (O44 to O47). -/

namespace Sys2Proof.Machine

variable {s u v : State} {t : Target} {j k : Job} {c : Chan} {r : Request} {rest : List Request} {w : Save} {f : State → State}
  {g : SaveStage}

/-! ### The end of a save (R104, R154) -/

theorem setPortState_parts (s : State) (p : Port) (x : PortState) : ∃ l, s.setPortState p x
    = { s with ports := s.ports.set p { s.ports.get p with state := x }, raised := l ++ s.raised } ∧ ∀ y ∈ l, y = .part := by
  by_cases h : (s.ports.get p).state = x
  · have e : s.ports.set p { s.ports.get p with state := x } = s.ports := by
      rw [← h]
      exact PerPort.set_get_self ..
    refine ⟨[], ?_, by simp⟩
    rw [State.setPortState, if_pos h, e]
    rfl
  · exact ⟨[.part], setPortState_new h, by simp⟩

/-- R104, R154: a save ends with its result, FLASH0 READY, a PART report, and the answer to the request. -/
theorem endSave_reporting (hw : s.store.save = some w) (hh : s.link.handler = .serving r .save) (ok : Bool) :
    (s.endSave ok).Reporting (({ s with
        store := s.store.endSave w ok
        ports := { s.ports with flash0 := { s.ports.flash0 with state := .ready } } } : State).served r
          (if ok then .ok else .saveFailed) (if ok then copyCode w.target :: le 4 w.generation.toNat else []))
      (.part :: s.raised) := by
  obtain ⟨l, e, hl⟩ := setPortState_parts (s.updStore (·.endSave w ok)) .flash0 .ready
  have answers : ∀ (z : State) (st : Status) (data : List Byte), z.link = s.link → z.replySave st data = z.reply r st data := by
    intro z st data hz
    rw [State.replySave, hz, hh]
  rw [State.endSave, hw]
  dsimp only
  rw [e]
  refine ⟨.part :: (l ++ s.raised), ?_, fun x => ?_⟩
  · cases ok
    · rw [if_neg (by simp), answers _ _ _ (by rfl), reply_eq]
      rfl
    · rw [if_pos rfl, answers _ _ _ (by rfl), reply_eq]
      rfl
  · simp only [List.mem_cons, List.mem_append]
    exact ⟨fun h => h.elim .inl fun h => h.elim (fun h => .inl (hl x h)) .inr, fun h => h.imp id .inr⟩

theorem saveEnded_of (hr : s.pins.reset = false) (hw : s.store.save = some w) (hh : s.link.handler = .serving r .save) (ok : Bool)
    (hf : f { s with raised := [] } = State.endSave { s with raised := [] } ok) : happens f s = .next (saveEnded s r (s.store.endSave w ok)
      (if ok then .ok else .saveFailed) (if ok then copyCode w.target :: le 4 w.generation.toNat else [])) := by
  obtain ⟨l, e, hl⟩ := endSave_reporting (s := { s with raised := [] }) hw hh ok
  exact happens_part hr (hf.trans e) rfl (by simpa using hl)

/-! ### The accesses of a save (R153) -/

theorem setStage_eq (hw : s.store.save = some w) (g : SaveStage) :
    s.setStage g = { s with store := { s.store with save := some { w with stage := g } } } := by
  rw [State.setStage, State.updStore, hw]
  rfl

theorem inStage_eq (hw : s.store.save = some w) (hg : w.stage = g) : s.inStage g f = f s := by
  rw [State.inStage, hw]
  exact if_pos hg

theorem writingBlock_eq (hw : s.store.save = some w) {b : Bool} (hg : w.stage = .writing b) : s.writingBlock = some b := by
  rw [State.writingBlock, hw]
  dsimp only
  rw [hg]

theorem verifyingBlock_eq (hw : s.store.save = some w) {b : Bool} (hg : w.stage = .verifying b) : s.verifyingBlock = some b := by
  rw [State.verifyingBlock, hw]
  dsimp only
  rw [hg]

theorem buildCopy_length (x : Word32) (y : Setup) : (buildCopy x y).length = 256 := by
  simp [buildCopy, copyCovered_length]

/-- R153: a verify read of 128 bytes is compared with the block written. -/
theorem exec_verifyRead {data : List Byte} (hd : data.length = 128) :
    exec (.saveVerifyReadDone data) s = happens (·.verifyBlock data) s := by
  change happens (fun s => if data.length = Config.blockBytes then s.verifyBlock data else s) s = _
  simp only [Config.blockBytes, hd, if_true]

theorem verifyBlock_eq (hw : s.store.save = some w) {b : Bool} (hg : w.stage = .verifying b) (data : List Byte) :
    s.verifyBlock data = if data = w.blockBytes b then (if b then s.endSave true else s.setStage (.verifying true))
      else s.endSave false := by
  rw [State.verifyBlock, verifyingBlock_eq hw hg, hw]

/-- Settles O45: each access that ends well sets the next stage, and the last ends the save. -/
theorem saveGoesOn : Obligations.SaveGoesOn := by
  intro s v r hr hv hh at_
  have stage : ∀ g, State.setStage { s with raised := [] } g = at_ g := fun g => setStage_eq (s := { s with raised := [] }) hv g
  refine ⟨fun hg => happens_quiet _ _ _ hr ((inStage_eq (s := { s with raised := [] }) hv hg).trans (stage _)) rfl,
    fun hg => happens_quiet _ _ _ hr ?_ rfl, fun hg => happens_quiet _ _ _ hr ?_ rfl, fun hg => ?_, fun hg => ?_⟩
  · rw [writingBlock_eq (s := { s with raised := [] }) hv hg]
    exact stage _
  · rw [writingBlock_eq (s := { s with raised := [] }) hv hg]
    exact stage _
  · rw [exec_verifyRead (by rw [List.length_take, buildCopy_length]; rfl)]
    refine happens_quiet _ _ _ hr ((verifyBlock_eq (s := { s with raised := [] }) hv hg _).trans ?_) rfl
    exact (if_pos rfl).trans (stage _)
  · rw [exec_verifyRead (by rw [List.length_drop, buildCopy_length])]
    refine saveEnded_of hr hv hh true ((verifyBlock_eq (s := { s with raised := [] }) hv hg _).trans ?_)
    exact if_pos (List.take_of_length_le (by rw [List.length_drop, buildCopy_length]; decide)).symm

/-- Settles O46: each failure of the access under way ends the save. -/
theorem saveFails : Obligations.SaveFails := by
  intro s v r second data hr hv hh failed
  have ends : ∀ f : State → State, f { s with raised := [] } = State.endSave { s with raised := [] } false → happens f s = .next failed :=
    fun f hf => saveEnded_of hr hv hh false hf
  refine ⟨fun hg => ?_, fun hg => ?_, fun hg => ?_⟩
  · have erase := inStage_eq (s := { s with raised := [] }) (f := (·.endSave false)) hv hg
    exact ⟨ends _ erase, ends _ erase⟩
  · have write : State.failWrite { s with raised := [] } = State.endSave { s with raised := [] } false := by
      rw [State.failWrite, writingBlock_eq (s := { s with raised := [] }) hv hg]
      rfl
    exact ⟨ends _ write, ends _ write⟩
  · have verify : State.failVerify { s with raised := [] } = State.endSave { s with raised := [] } false := by
      rw [State.failVerify, verifyingBlock_eq (s := { s with raised := [] }) hv hg]
      rfl
    refine ⟨ends _ verify, ends _ verify, fun hd hne => ?_⟩
    rw [exec_verifyRead hd]
    exact ends _ ((verifyBlock_eq (s := { s with raised := [] }) hv hg data).trans (if_neg hne))

/-! ### The writer takes FLASH0 (R103, R152, R153) -/

theorem writerTakes_waits (h : (s.ports.get .flash0).state ≠ .ready ∨ (s.ports.get .flash0).reads ≠ []) : s.writerTakes = s := by
  unfold State.writerTakes
  split
  · rfl
  · refine if_neg ?_
    rintro ⟨-, h1, h2⟩
    exact h.elim (fun h => h h1) fun h => h h2

section
variable (hw : s.store.save = some w) (hg : w.stage = .waiting) (hst : (s.ports.get .flash0).state = .ready)
  (hreads : (s.ports.get .flash0).reads = [])
include hw hg hst hreads

/-- R153: a sector within the capacity is erased. -/
theorem writerTakes_erases (hfit : sectorFits w.target (s.ports.get .flash0).capacity = true) : s.writerTakes = { s with
    ports := { s.ports with flash0 := { s.ports.flash0 with state := .writing } }
    store := { s.store with save := some { w with stage := .erasing } }
    raised := .part :: s.raised } := by
  unfold State.writerTakes
  rw [hw]
  dsimp only
  rw [if_pos ⟨hg, hst, hreads⟩, if_pos hfit, setPortState_new (by rw [hst]; simp)]
  exact setStage_eq (s := { s with
    ports := s.ports.set .flash0 { s.ports.get .flash0 with state := .writing }, raised := .part :: s.raised }) hw .erasing

/-- R153: a sector beyond the capacity ends the save at once. -/
theorem writerTakes_fails (hh : s.link.handler = .serving r .save) (hfit : sectorFits w.target (s.ports.get .flash0).capacity = false) :
    s.writerTakes.Reporting (State.served { s with store := { s.store with save := none, lastSave := .saveFailed } } r .saveFailed [])
      (.part :: .part :: s.raised) := by
  have back : ({ s with
      store := { s.store with save := none, lastSave := .saveFailed }
      ports := { s.ports with flash0 := { s.ports.flash0 with state := .ready } } } : State)
        = { s with store := { s.store with save := none, lastSave := .saveFailed } } := by
    rw [← show s.ports.flash0.state = .ready from hst]
  unfold State.writerTakes
  rw [hw]
  dsimp only
  rw [if_pos ⟨hg, hst, hreads⟩, hfit, if_neg (by simp), setPortState_new (by rw [hst]; simp)]
  have := endSave_reporting (s := { s with
    ports := s.ports.set .flash0 { s.ports.get .flash0 with state := .writing }, raised := .part :: s.raised }) hw hh false
  rw [← back]
  exact this

end

/-- R103: a sector of FLASH0 of 64 blocks or more lies within it. -/
theorem sectorFits_large (x : Copy) {n : Nat} (h : 64 ≤ n) : sectorFits x n = true := by
  cases x
  · exact decide_eq_true (show 32 ≤ n by omega)
  · exact decide_eq_true (show 2 * 32 ≤ n by omega)

theorem sectorFits_small (x : Copy) {n : Nat} (h : n < 32) : sectorFits x n = false := by
  cases x
  · exact decide_eq_false (show ¬ 32 ≤ n by omega)
  · exact decide_eq_false (show ¬ 2 * 32 ≤ n by omega)

/-- R151: the save that a SAVE SETUP starts. -/
def SetupStore.newSave (x : SetupStore) : Save := ⟨x.setup, otherCopy x.current, nextGeneration x.generation, false, .waiting⟩

/-- R151, R152: the state in which a SAVE SETUP has placed the writer's claim. -/
def State.saveClaimed (s : State) (r : Request) (rest : List Request) : State := { s with
  link := { s.link with queue := rest, handler := .serving r .save }
  store := { s.store with save := some s.store.newSave }
  raised := [] }

theorem saveSetup_starts (h : s.store.generation ≠ some 0xFFFFFFFF#32) (hst : (s.ports.get .flash0).state ≠ .absent) :
    (s.taken rest).saveSetup r = (s.saveClaimed r rest).writerTakes := by
  rw [State.saveSetup, if_neg (by exact h), if_neg (by exact hst)]
  rfl

/-- Settles O44. -/
theorem saveAndRestartTaken : Obligations.SaveAndRestartTaken := by
  intro s r rest h hp save
  have hl : r.payload.length = 0 := by rw [hp]; rfl
  have hsave : s.store.newSave = save := by
    show Save.mk _ _ _ _ _ = Save.mk _ _ _ _ _
    congr 1
    rcases s.store.current with _ | (_ | _) <;> rfl
  refine ⟨fun hk hs => ⟨fun hg => ?_, fun hg hst => ?_, fun hg hst hr => ?_, fun hg hst hr hc => ?_, fun hg hst hr hc => ?_⟩, fun hk => ?_⟩
  · exact happens_request h hk hs hl ((if_pos hg).trans (taken_reply ..))
  · exact happens_request h hk hs hl ((if_neg hg).trans ((if_pos hst).trans (taken_reply ..)))
  · refine happens_request_next h hk hs hl ((saveSetup_starts hg (by exact hst ▸ (by simp))).trans ?_) rfl
    rw [writerTakes_waits (.inr (by exact hr)), ← hsave]
    rfl
  · refine happens_request_part h hk hs hl ((saveSetup_starts hg (by exact hst ▸ (by simp))).trans ?_) rfl
    rw [writerTakes_erases (s := s.saveClaimed r rest) rfl rfl hst hr (sectorFits_large _ hc), ← hsave]
    rfl
  · obtain ⟨l, e, hl'⟩ := writerTakes_fails (s := s.saveClaimed r rest) (w := s.store.newSave) rfl rfl hst hr rfl (sectorFits_small _ hc)
    exact happens_part h.1 ((request_taken (kind := kSaveSetup) h hk hs hl).trans
      ((saveSetup_starts hg (by exact hst ▸ (by simp))).trans e)) rfl (by simpa [State.saveClaimed] using hl')
  · refine happens_quiet _ _ _ h.1 ((takeRequest_taken h (by simp [hk, kRestart])).trans ?_) rfl
    rw [State.sized, if_pos hl]
    simp [State.updLink, respond_eq, State.taken]

/-- R103: a completion of a channel's read at FLASH0 hands the port to the setup writer after the channel has acted. -/
theorem completeRead_flash0 {a b : Nat} {c : Chan} {more : List Read} {data : List Byte}
    (hread : s.ports.flash0.reads = ⟨.chan c b, a⟩ :: more) (hf : (s.withoutRead .flash0 0).channelData c b data = v) :
    State.completeRead { s with raised := [] } .flash0 0 (State.handData .flash0 data) = v.writerTakes := by
  have hx : ((State.ports { s with raised := [] }).get .flash0).reads[0]? = some ⟨.chan c b, a⟩ := by
    change s.ports.flash0.reads[0]? = _
    rw [hread]
    rfl
  rw [State.completeRead, readAt_eq (.inr ⟨rfl, .inl rfl⟩) hx]
  exact (if_pos rfl).trans (congrArg State.writerTakes hf)

/-- Settles O47: the writer acts on the state the completion leaves, and takes the port where no read is left. -/
theorem writerWaitsForReads : Obligations.WriterWaitsForReads := by
  intro s w a k c t j more data hr hw hg hst hread hcap hd hc hj free held s1 taken
  have hmore : s.ports.flash0.reads.eraseIdx 0 = more := by rw [hread]; rfl
  have hs1 : s.withoutRead .flash0 0 = s1 := congrArg (fun l => { s with
    ports := { s.ports with flash0 := { s.ports.flash0 with reads := l } }, raised := [] }) hmore
  have waits : ∀ x : State, x.ports = s1.ports → more ≠ [] → x.writerTakes = x := fun x hx hm =>
    writerTakes_waits (.inr (by rw [hx]; exact hm))
  have takes : ∀ x : State, x.ports = s1.ports → x.store = s.store → more = [] →
      x.writerTakes = { taken x with raised := .part :: x.raised } := fun x hx hxs hm => by
    rw [writerTakes_erases (w := w) (by rw [hxs, hw]) hg (by rw [hx]; exact hst) (by rw [hx]; exact hm)
      (sectorFits_large _ (by rw [hx]; exact hcap)), hxs]
  have acts : ∀ {u v : State}, s1.channelData c k data = u → u.writerTakes = v →
      State.completeRead { s with raised := [] } .flash0 0 (State.handData .flash0 data) = v := fun hu hv =>
    (completeRead_flash0 hread (by rw [hs1]; exact hu)).trans hv
  have hdrain : (s1.putSlot c k .free).draining c = free.any (·.isInFlight) := draining_putSlot ..
  rw [exec_readComplete hd]
  refine ⟨?_, fun hs hmore hm => ?_, ?_⟩
  · intro e x hs he hport hx hk hh s2
    have hu : s1.channelData c k data = s2 := (channelData_streaming (s := s1) hc hj hs k data).trans
      ((fetched_block (s := s1) hj hs hx (.inl hk) (wrongLength_device hj he hport _ _ _)).1 (.inl hh))
    exact ⟨fun hm => happens_quiet _ _ _ hr (acts hu (waits s2 rfl hm)) rfl,
      fun hm => happens_part hr (acts hu (takes s2 rfl rfl hm)) rfl (l := [.part]) (by simp)⟩
  · have hu : s1.channelData c k data = s1.putSlot c k .free := (channelData_draining (s := s1) hc hj hs k data).trans
      (drained_more (hdrain.trans hmore))
    exact happens_quiet _ _ _ hr (acts hu (waits _ rfl hm)) rfl
  · intro hs ha hlast aborted s2
    have hu : s1.channelData c k data = { s2 with raised := [.job t] } :=
      (channelData_draining (s := s1) hc hj hs k data).trans ((drained_aborted (s := s1.putSlot c k .free) (hdrain.trans hlast) hj ha).trans
        ((abortJob_eq (s := s1.putSlot c k .free) hj).trans (by simp [State.putSlot, State.updChannel, s1, s2, free, aborted, State.withJob])))
    exact ⟨fun hm => happens_job hr (acts hu (waits _ rfl hm)) rfl (withJob_job ..) (l := [.job t]) (by simp),
      fun hm => happens_part_job hr (acts hu (takes _ rfl rfl hm)) rfl (withJob_job ..) (l := [.part, .job t]) (by simp)⟩

end Sys2Proof.Machine
end

section
/-! SUPPORT. How jobs come to a channel: the wait queues, the takes, and the first attempts of a pass (O15, O16, O17, O21). -/

namespace Sys2Proof.Machine

variable {s u : State} {t : Target} {j k : Job} {c : Chan} {p : Position}

/-! ### Ordered entries (R14, R43) -/

theorem queueEntryByClass : Claims.QueueEntryByClass := by
  intro cls t q hq
  induction q with
  | nil => simp [insertByClass]
  | cons w ws ih =>
    obtain ⟨hw, hws⟩ := List.pairwise_cons.1 hq
    obtain ⟨hins, hord⟩ := ih hws
    rw [insertByClass]
    split
    · rename_i hlt
      have hall : ∀ v ∈ w :: ws, cls t < cls v := by
        intro v hv
        rcases List.mem_cons.1 hv with rfl | hv
        · exact hlt
        · exact lt_of_lt_of_le hlt (hw v hv)
      refine ⟨?_, List.pairwise_cons.2 ⟨fun v hv => (hall v hv).le, hq⟩⟩
      rw [List.filter_eq_nil_iff.2 (by simpa using hall), List.filter_eq_self.2 (by simpa using hall), List.nil_append]
    · rename_i hle
      refine ⟨?_, List.pairwise_cons.2 ⟨fun v hv => ?_, hord⟩⟩
      · rw [hins, List.filter_cons_of_pos (by simpa using hle), List.filter_cons_of_neg (by simpa using hle), List.cons_append]
      · rw [hins] at hv
        simp only [List.mem_append, List.mem_filter, List.mem_cons] at hv
        rcases hv with ⟨hv, -⟩ | rfl | ⟨hv, -⟩
        · exact hw v hv
        · exact not_lt.1 hle
        · exact hw v hv

theorem insertCandidate_perm (x : Candidate) (l : List Candidate) : (insertCandidate x l).Perm (x :: l) := by
  induction l with
  | nil => exact List.Perm.refl _
  | cons y ys ih =>
    rw [insertCandidate]
    split
    · exact List.Perm.refl _
    · exact (ih.cons y).trans (List.Perm.swap x y ys)

theorem positionNum_inj {p q : Position} (h : positionNum p = positionNum q) : p = q := by
  have hcode : positionCode p = positionCode q := congrArg u8 h
  rw [← Option.some_inj, ← positionOf_positionCode p, hcode, positionOf_positionCode q]

theorem candidateOrderKept : Claims.CandidateOrderKept := by
  intro x l before hl hne
  refine ⟨?_, insertCandidate_perm x l⟩
  have trans : ∀ a b d : Candidate, before a b → before b d → before a d := by
    intro a b d hab hbd
    rcases hab with h | ⟨h1, h2⟩ <;> rcases hbd with g | ⟨g1, g2⟩
    · exact .inl (BitVec.lt_trans g h)
    · exact .inl (g1 ▸ h)
    · exact .inl (h1 ▸ g)
    · exact .inr ⟨h1.trans g1, Nat.lt_trans h2 g2⟩
  induction l with
  | nil => simp [insertCandidate]
  | cons y ys ih =>
    obtain ⟨hy, hys⟩ := List.pairwise_cons.1 hl
    rw [insertCandidate]
    split
    · rename_i hxy
      have hxy' : before x y := hxy.imp id fun h => ⟨h.1.symm, h.2⟩
      exact List.pairwise_cons.2 ⟨fun z hz => (List.mem_cons.1 hz).elim (fun e => e ▸ hxy') fun hz => trans _ _ _ hxy' (hy z hz), hl⟩
    · rename_i hxy
      obtain ⟨hv, hp⟩ := not_or.1 hxy
      have hyx : before y x := by
        rcases Nat.lt_or_eq_of_le (show x.version.toNat ≤ y.version.toNat from Nat.not_lt.1 hv) with h | h
        · exact .inl h
        · have hpos : positionNum y.position ≠ positionNum x.position := fun e => hne y (by simp) (positionNum_inj e)
          have hver := BitVec.eq_of_toNat_eq h.symm
          exact .inr ⟨hver, lt_of_le_of_ne (not_lt.1 fun h2 => hp ⟨hver, h2⟩) hpos⟩
      refine List.pairwise_cons.2 ⟨fun z hz => ?_, ih hys fun z hz => hne z (by simp [hz])⟩
      rcases List.mem_cons.1 ((insertCandidate_perm x ys).mem_iff.1 hz) with rfl | hz
      · exact hyx
      · exact hy z hz

/-- Settles O17. -/
theorem orderedEntries : Obligations.OrderedEntries := ⟨queueEntryByClass, candidateOrderKept⟩

/-- Settles O16: the job becomes QUEUED and enters its queue. -/
theorem backoffEndsQueued : Obligations.BackoffEndsQueued := by
  intro s t j hr hj hs hb j1 d
  have hj0 : State.job { s with raised := [] } t = some j := hj
  have hj' : (s.jobs.get t).job = some j := hj
  refine happens_job (l := [.job t]) (u := { s with
      queues := s.queues.set d (insertByClass (fun u => (s.record u).cls) t (s.queues.get d))
      jobs := s.jobs.set t { s.jobs.get t with backoff := none, job := some j1 }
      raised := [] }) hr ?_ rfl (by simp [State.job]) (by simp)
  rw [State.backoffEnds, hj0]
  dsimp only
  rw [if_pos ⟨hs, hb⟩, setJobState_new (j := j) (by simpa [State.job] using hj') (by simp [hs])]
  simp [State.enterQueue, State.updQueue, State.withJob, j1, d]
  rfl

/-! ### The search of a pass from a list of positions (R34, R39, R41, R42) -/

/-- The search of the target's mode over the positions `ps`. -/
def State.search (s : State) (c : Chan) (t : Target) (ps : List Position) : State :=
  match (s.record t).mode with
  | .first => State.probeFirst c t ps s
  | .newest => State.sweep c t ps s

theorem search_skips {ds : List Position} (h : s.Skips ds) (ps : List Position) : s.search c t (ds ++ ps) = s.search c t ps := by
  unfold State.search
  rw [probeFirst_skips s c t ds ps h, sweep_skips s c t ds ps h]

theorem search_probes {ps : List Position} (he : (s.source p).enabled = true) (hr : s.refuses (s.source p).port = false) :
    s.search c t (p :: ps) = (s.startProbe c t p).setClaim c (s.source p).port 0 := by
  unfold State.search
  split
  · rw [State.probeFirst, if_pos he, hr]
    rfl
  · rw [State.sweep, if_pos he, hr]
    rfl

/-- R98: a position whose port refuses ends its attempt at once, and the search goes on behind it. -/
theorem search_refused {ps : List Position} (he : (s.source p).enabled = true) (hr : s.refuses (s.source p).port = true)
    (hm : (((s.startProbe c t p).refusedAtOnce c t).record t).mode = (s.record t).mode) :
    s.search c t (p :: ps) = ((s.startProbe c t p).refusedAtOnce c t).search c t ps := by
  unfold State.search
  rw [hm]
  split
  · rw [State.probeFirst, if_pos he, hr]
    rfl
  · rw [State.sweep, if_pos he, hr]
    rfl

theorem search_ends (hj : s.job t = some j) (hc : j.candidates = []) : s.search c t [] = s.endPass c t := by
  unfold State.search
  split
  · rfl
  · rw [State.sweep, hj]
    dsimp only
    rw [hc]
    rfl

/-- R41, R42: after a probe the search goes on over the rest of the job's positions. -/
theorem search_rest (hj : s.job t = some j) (hph : j.phase ≠ some .fetch) : s.search c t j.rest = s.moveOn c t := by
  rw [State.moveOn, hj]
  dsimp only
  rw [if_neg hph]
  rfl

/-- R39, R42: a probe of a job that is PROBING starts in the state it is in. -/
theorem startProbe_eq (hj : s.job t = some j) (hs : j.state = .probing) : s.startProbe c t p = State.withJob { s with
      channels := s.channels.set c { s.channels.get c with issue := 0, params := none, check := none } } t
        (j.attempting p .probe (s.source p)) := by
  rw [State.startProbe, State.startAttempt, updJob_eq hj]
  exact setJobState_same (s := State.withJob { s with
      channels := s.channels.set c { s.channels.get c with issue := 0, params := none, check := none } } t _)
    (j := j.attempting p .probe (s.source p)) (withJob_job ..) hs

/-- R98, R13: an attempt that a refusing port ends at once is logged. -/
theorem refusedAtOnce_eq {ph : Phase} (hj : s.job t = some j) (hp : j.position = some p) (hph : j.phase = some ph) :
    s.refusedAtOnce c t = { State.withJob { s with
      channels := s.channels.set c { s.channels.get c with issue := (s.channels.get c).issue + 1 } } t (j.logged p ph .noPort)
        with raised := .job t :: s.raised } := by
  rw [State.refusedAtOnce, State.recordOutcome, updJob_eq (s := State.updChannel ..) hj, recordOutcome_logged j p ph _ hp hph]
  rfl

/-! ### The take (R70, R36) -/

/-- R36: the job at the start of a pass. -/
def Job.inPass (j : Job) : Job := { j with candidates := [], state := .probing }

/-- R70, R36: the state in which channel `c` has taken the head of its queue, before its search begins. -/
def State.takes (s : State) (c : Chan) (t : Target) (rest : List Target) (j : Job) : State :=
  State.withJob { s with
    queues := s.queues.set c rest
    channels := s.channels.set c
      { s.channels.get c with running := some t, issue := 0, params := none, check := none }
    raised := .job t :: s.raised } t j.inPass

theorem takeHead_search {rest : List Target} (hc : (s.channels.get c).running = none) (hq : s.queues.get c = t :: rest)
    (hj : s.job t = some j) (hs : j.state ≠ .probing) : s.takeHead c
      = (s.takes c t rest j).search c t j.effective := by
  have h2 : (((s.updQueue c fun _ => rest).updChannel c fun x =>
        { x with running := some t, issue := 0, params := none, check := none }).updJob t fun j =>
          { j with candidates := [] }).setJobState t .probing
      = s.takes c t rest j := by
    rw [updJob_eq (j := j) (by exact hj), setJobState_new (withJob_job ..) (by exact hs), withJob_withJob]
    rfl
  rw [State.takeHead, hc, hq]
  dsimp only
  unfold State.startPass
  dsimp only
  rw [h2, show (s.takes c t rest j).job t = some j.inPass from withJob_job ..]
  rfl

/-- R13: the job whose first attempt, a probe at `p`, has ended with NO PORT. -/
def State.refusedFirst (s : State) (j : Job) (p : Position) : Job :=
  (j.inPass.attempting p .probe (s.source p)).logged p .probe .noPort

/-- R98: the state in which the first attempt has ended at once, before the search moves on. -/
def State.takesRefused (s : State) (c : Chan) (t : Target) (rest : List Target) (j : Job) (p : Position) : State :=
  State.withJob { s with
    queues := s.queues.set c rest
    channels := s.channels.set c
      { s.channels.get c with running := some t, issue := 1, params := none, check := none }
    raised := .job t :: .job t :: s.raised } t (s.refusedFirst j p)

theorem takes_refusedAtOnce (rest : List Target) (j : Job) : ((s.takes c t rest j).startProbe c t p).refusedAtOnce c t
    = s.takesRefused c t rest j p := by
  rw [startProbe_eq (s := s.takes c t rest j) (withJob_job ..) rfl,
    refusedAtOnce_eq (ph := .probe) (p := p) (withJob_job ..) rfl rfl]
  simp [State.takes, State.takesRefused, State.withJob]
  rfl

section
variable {rest : List Target} (hc : (s.channels.get c).running = none) (hq : s.queues.get c = t :: rest) (hj : s.job t = some j)
  (hs : j.state ≠ .probing) (hr : s.raised = [])
include hc hq hj hs hr

/-- R70, R72: the first enabled position is probed. -/
theorem takeHead_probes {ds ps : List Position} (heff : j.effective = ds ++ p :: ps) (hds : s.Skips ds)
    (hen : (s.source p).enabled = true) (hok : s.refuses (s.source p).port = false) : (s.takeHead c).Reporting
      (State.withJob { s with
        queues := s.queues.set c rest
        channels := s.channels.set c { s.channels.get c with
          running := some t, issue := 0, params := none, check := none, claim := some ⟨(s.source p).port, 0⟩ } } t
        { j.inPass.attempting p .probe (s.source p) with state := .probing }) [.job t] := by
  have hjob : (s.takes c t rest j).job t = some j.inPass := withJob_job ..
  obtain ⟨l, e, hl, -⟩ := startProbe_claims (s.takes c t rest j) c t j.inPass p hjob
  rw [takeHead_search hc hq hj hs, heff, search_skips (by exact hds), search_probes (s := s.takes c t rest j) hen hok]
  refine ⟨l ++ [.job t], e.trans ?_, fun x => ?_⟩
  · simp [State.takes, State.withJob, Channel.attempting, hr, State.source]
  · simpa using hl x

/-- R37: with every position disabled the pass ends at once. -/
theorem takeHead_ends (heff : s.Skips j.effective) (h : State.PassEnded { s with
      queues := s.queues.set c rest
      channels := s.channels.set c
        { s.channels.get c with running := some t, issue := 0, params := none, check := none } } c t j.inPass u k) :
    (s.takeHead c).Reporting u [.job t] := by
  have hjob : (s.takes c t rest j).job t = some j.inPass := withJob_job ..
  obtain ⟨l, e, hl, -⟩ := endPass_ended _ c t _ _ k hjob (h.written j.inPass (.job t :: s.raised))
  rw [takeHead_search hc hq hj hs, ← List.append_nil j.effective, search_skips (by exact heff), search_ends hjob rfl]
  refine ⟨l ++ .job t :: s.raised, e, fun x => ?_⟩
  rw [hr]
  simpa using hl x

/-- R98, R34: a first position whose port refuses, and the search behind it. -/
theorem takeHead_refused {ds ps : List Position} (heff : j.effective = ds ++ p :: ps) (hds : s.Skips ds)
    (hen : (s.source p).enabled = true) (hno : s.refuses (s.source p).port = true) (hcl : (s.channels.get c).claim = none)
    (hrest : (j.inPass.attempting p .probe (s.source p)).rest = ps)
    (h : State.ProbeEnded { s with
      queues := s.queues.set c rest
      channels := s.channels.set c
        { s.channels.get c with running := some t, issue := 1, params := none, check := none } } c t
      (j.inPass.attempting p .probe (s.source p)) p .noPort u k) :
    (s.takeHead c).Reporting u [.job t] := by
  have hjob : (s.takes c t rest j).job t = some j.inPass := withJob_job ..
  have hmoved : State.Moved { s with
      queues := s.queues.set c rest
      channels := s.channels.set c
        { s.channels.get c with running := some t, issue := 1, params := none, check := none } } c t (s.refusedFirst j p) u k := by
    unfold State.ProbeEnded at h
    simpa [hcl, State.refusedFirst] using h
  obtain ⟨l, e, hl, -⟩ := moveOn_moved (s.takesRefused c t rest j p) c t (s.refusedFirst j p) _ k (withJob_job ..)
    (hmoved.written (s.refusedFirst j p) (.job t :: .job t :: s.raised))
  rw [takeHead_search hc hq hj hs, heff, search_skips (by exact hds),
    search_refused (s := s.takes c t rest j) hen hno (by rw [takes_refusedAtOnce]; rfl), takes_refusedAtOnce,
    ← (show (s.refusedFirst j p).rest = ps from hrest), search_rest (s := s.takesRefused c t rest j p) (j := s.refusedFirst j p) (withJob_job ..) (by
      rw [State.refusedFirst]; simp [Job.logged, Job.attempting]), e]
  refine ⟨_, rfl, fun x => ?_⟩
  simp only [State.takesRefused, hr]
  simpa [State.withJob] using hl x

end

/-- Settles O15: the two ends of a take. -/
theorem channelTakesHead : Obligations.ChannelTakesHead := by
  intro s c t rest j hr hc hq hj hs x s1
  refine ⟨?_, fun u k hds h => ?_⟩
  · intro ds p ps heff hds hen hok j1
    exact happens_reporting_job (f := (·.takeHead c)) hr (takeHead_probes (s := { s with raised := [] }) hc hq hj hs rfl heff hds hen hok)
      rfl (withJob_job ..)
  · have he := h.lands
    exact happens_reporting_job (f := (·.takeHead c)) hr (takeHead_ends (s := { s with raised := [] }) hc hq hj hs rfl hds h)
      he.raised he.job

end Sys2Proof.Machine
end

section
/-! SUPPORT. The commands of the lane: deliveries of blocks, the end of a stream, and how each leaves the job (O18 to O21). -/

namespace Sys2Proof.Machine

variable {s u : State} {t : Target} {j k : Job} {c : Chan} {p q : Position} {e : SourceEntry} {x : StreamParams} {data : List Byte}
  {reg : Word32} {o : AttemptOutcome} {tdone : Bool}

/-! ### A block delivered (R80, R129) -/

/-- R80: the job with one more block delivered. -/
def Job.oneMore (j : Job) : Job := { j with delivered := j.delivered + 1 }

/-- R80, R129: the state in which the block on the lane has been sent: the lane is IDLE, the check advanced, the slot free. -/
def State.blockSent (s : State) (c : Chan) (t : Target) (j : Job) (x : StreamParams) (data : List Byte) : State :=
  State.withJob { s with
    channels := s.channels.set c { s.channels.get c with
      check := (s.channels.get c).check.map fun reg => crc32Over reg (payloadOf x.length j.delivered data)
      slots := setSlot j.delivered .free (s.channels.get c).slots }
    lines := s.lines.set t (s.lines.get t).stopLane } t j.oneMore

section
variable (hm : (s.lines.get t).mayComplete = true) (hc : s.channelOf t = some c) (hj : s.job t = some j)
  (hx : (s.channels.get c).params = some x) (hd : deliveringBlock (s.channels.get c).slots = some data)
include hm hc hj hx hd

theorem deliveryEnds_eq : s.deliveryEnds t = if j.delivered + 1 = x.count then (s.blockSent c t j x data).endStream c t
    else ((s.blockSent c t j x data).handOff c t).placeClaim c t := by
  have hblock : (s.updLine t (·.stopLane)).blockDelivered c t = if j.delivered + 1 = x.count
      then (s.blockSent c t j x data).endStream c t else ((s.blockSent c t j x data).handOff c t).placeClaim c t := by
    have hj' : (s.updLine t (·.stopLane)).job t = some j := hj
    unfold State.blockDelivered
    simp only [hj', State.updLine_channels, hx, hd]
    rw [updJob_eq (j := j) (by exact hj')]
    rfl
  rw [State.deliveryEnds, if_pos hm]
  dsimp only
  rw [show (s.updLine t (·.stopLane)).channelOf t = some c from hc]
  exact hblock

end

/-- R80, R72: within a stream the next block is handed on, if it is HELD, and a claim placed. -/
theorem blockSent_goesOn (hs : j.state = .streaming) (he : j.entry = some e) (hr : s.refuses e.port = false)
    (hx : (s.channels.get c).params = some x) :
    let slots := setSlot j.delivered .free (s.channels.get c).slots
    let y := { s.channels.get c with
      slots := slots
      check := (s.channels.get c).check.map fun reg => crc32Over reg (payloadOf x.length j.delivered data) }
    let after := ((s.blockSent c t j x data).handOff c t).placeClaim c t
    (heldBlock (j.delivered + 1) slots = none →
      after = { s.blockSent c t j x data with channels := s.channels.set c (y.claiming j.oneMore e.port) })
    ∧ (∀ d, heldBlock (j.delivered + 1) slots = some d → slots.any (·.isDelivering) = false →
      after = { s.blockSent c t j x data with
        channels := s.channels.set c (({ y with
          slots := setSlot (j.delivered + 1) (.delivering (j.delivered + 1) d) slots } : Channel).claiming j.oneMore e.port)
        lines := s.lines.set t ((s.lines.get t).stopLane.take (j.delivered + 1)
          (payloadOf x.length (j.delivered + 1) d) (s.pins.trdy.get t) (s.record t)) }) := by
  intro slots y after
  have hjob : (s.blockSent c t j x data).job t = some j.oneMore := withJob_job ..
  have hparams : ((s.blockSent c t j x data).channels.get c).params = some x := by simp [State.blockSent, State.withJob, hx]
  have hslots : ((s.blockSent c t j x data).channels.get c).slots = slots := by simp [State.blockSent, State.withJob, slots]
  refine ⟨fun hn => ?_, fun d hd hnone => ?_⟩
  · show ((s.blockSent c t j x data).handOff c t).placeClaim c t = _
    rw [handOff_stays hjob hparams (.inr (by rw [hslots]; exact hn)), placeClaim_eq hjob he hr]
    simp [State.blockSent, State.withJob, y, slots]
  · show ((s.blockSent c t j x data).handOff c t).placeClaim c t = _
    rw [handOff_goes hjob hparams hs (by rw [hslots]; exact hnone) (by rw [hslots]; exact hd),
      placeClaim_eq (j := j.oneMore) (e := e) (by exact hjob) he (by exact hr)]
    simp [State.blockSent, State.withJob, y, slots, Job.oneMore, State.updChannel, State.updLine]
    rfl

/-- R132: the state in which the event of a delivery acts: the level of TDONE is told with it. -/
def State.tdoneTold (s : State) (t : Target) (tdone : Bool) : State :=
  { s with pins := { s.pins with tdone := s.pins.tdone.set t tdone }, raised := [] }

/-- Settles O18: the delivery completes within the stream. -/
theorem deliveredBlockAdvances : Obligations.DeliveredBlockAdvances := by
  intro s t tdone c j e x data hr hm hc hj hs he hok hx hd hne slots check j1 y place s1
  have hends := deliveryEnds_eq (s := s.tdoneTold t tdone) hm hc hj hx hd
  rw [if_neg hne] at hends
  obtain ⟨stays, goes⟩ := blockSent_goesOn (s := s.tdoneTold t tdone) (c := c) (t := t) (data := data) hs he hok hx
  refine ⟨fun hn => ?_, fun d hh hnone => ?_⟩
  · exact happens_quiet _ _ _ (by exact hr) (hends.trans (stays hn)) rfl
  · exact happens_quiet _ _ _ (by exact hr) (hends.trans (goes d hh hnone)) rfl

/-! ### The end of a stream (R82, R25) -/

/-- R127: the line after a delivery: the done timer is stopped, and a MEMORY target's line released. -/
def State.deliveredLine (s : State) (t : Target) : TargetPort :=
  if (s.record t).kind = .memory then
    ({ s.lines.get t with done := none } : TargetPort).release (s.pins.tflt.get t) (s.pins.trdy.get t) (s.record t)
  else { s.lines.get t with done := none }

/-- R26: the floor raise. -/
theorem raiseFloor_eq (s : State) (t : Target) (x : StreamParams) :
    s.raiseFloor t x = { s with store := s.store.afterDelivery t x } := by
  unfold State.raiseFloor SetupStore.afterDelivery TargetRecord.floorRises
  dsimp only
  split
  · rename_i h
    rw [if_pos (by exact h)]
    rfl
  · rename_i h
    rw [if_neg (by exact h)]

theorem afterDelivery_record (y : SetupStore) (t : Target) (x : StreamParams) :
    ∃ n, (y.afterDelivery t x).setup.targets.get t = { y.setup.targets.get t with versionFloor := n } := by
  unfold SetupStore.afterDelivery
  dsimp only
  split
  · exact ⟨x.version, by simp⟩
  · exact ⟨_, rfl⟩

/-- R25, R26, R127: a delivery. -/
theorem deliver_eq (hj : s.job t = some j) (hx : (s.channels.get c).params = some x) (hp : j.position = some p)
    (he : j.entry = some e) : s.deliver c t
      = { State.delivered { s with lines := s.lines.set t (s.deliveredLine t) } c t j x p e with raised := .job t :: s.raised } := by
  obtain ⟨n, hn⟩ := afterDelivery_record s.store t x
  unfold State.deliver
  rw [hj, hx]
  dsimp only
  rw [finishJob_eq (s := s.leaveChannel c) hj, raiseFloor_eq]
  unfold State.deliveredLine
  split
  · simp [State.releaseLine, State.updLine, State.updSlot, State.withJob, State.leaveChannel, State.updChannel, State.delivered,
      descriptorOf, hp, he, Channel.left, State.record, hn]
    rfl
  · simp [State.updLine, State.updSlot, State.withJob, State.leaveChannel, State.updChannel, State.delivered,
      descriptorOf, hp, he, Channel.left]

theorem delivered_job (s : State) (c : Chan) (t : Target) (j : Job) (x : StreamParams) (p : Position) (e : SourceEntry) :
    (s.delivered c t j x p e).job t = some { j with state := .delivered, final := some .delivered, abortPending := false } := by
  simp [State.delivered, State.job]

section
variable (hx : (s.channels.get c).params = some x) (hreg : (s.channels.get c).check = some reg)
include hx hreg

theorem endStream_memory (hmatch : ~~~ reg = x.check) (hk : (s.record t).kind = .memory) :
    s.endStream c t = s.deliver c t := by
  unfold State.endStream
  rw [hx, hreg]
  dsimp only
  rw [if_pos hmatch, if_pos hk]

theorem endStream_lane (hmatch : ~~~ reg = x.check) (hk : (s.record t).kind = .lane) :
    s.endStream c t = if s.pins.tdone.get t then (s.setJobState t .finishing).deliver c t
      else (s.setJobState t .finishing).updLine t fun y => { y with done := some (10 * (s.record t).doneTimeout) } := by
  unfold State.endStream
  rw [hx, hreg]
  dsimp only
  rw [if_pos hmatch, if_neg (by simp [hk])]

theorem endStream_differs (hmatch : ~~~ reg ≠ x.check) : s.endStream c t = s.endFetch c t .checksum := by
  unfold State.endStream
  rw [hx, hreg]
  dsimp only
  rw [if_neg hmatch]

end

/-- R28: a state set, whether or not it is new, with the JOB report it raises where it is. -/
theorem setJobState_reporting (hj : s.job t = some j) (y : JobState) :
    ∃ l, s.setJobState t y = { s.withJob t { j with state := y } with raised := l ++ s.raised } ∧ ∀ z ∈ l, z = .job t := by
  by_cases h : j.state = y
  · refine ⟨[], ?_, by simp⟩
    rw [setJobState_same hj h, show { j with state := y } = j by rw [← h], withJob_self s t j hj]
    rfl
  · exact ⟨[.job t], setJobState_new hj h, by simp⟩

section
variable (hm : (s.lines.get t).mayComplete = true) (hc : s.channelOf t = some c) (hj : s.job t = some j)
  (hx : (s.channels.get c).params = some x) (hreg : (s.channels.get c).check = some reg)
  (hd : deliveringBlock (s.channels.get c).slots = some data) (hlast : j.delivered + 1 = x.count)
include hm hc hj hx hreg hd hlast

omit hreg in
theorem lastBlock_ends : s.deliveryEnds t = (s.blockSent c t j x data).endStream c t := by
  rw [deliveryEnds_eq hm hc hj hx hd, if_pos hlast]

/-- R25, R26, R127: what the last block of a matching stream delivers. -/
theorem lastBlock_delivers (hp : j.position = some p) (he : j.entry = some e)
    (hmatch : ~~~ crc32Over reg (payloadOf x.length j.delivered data) = x.check) (hr : s.raised = [])
    (hk : (s.record t).kind = .memory ∨ (s.record t).kind = .lane ∧ s.pins.tdone.get t = true) :
    (s.deliveryEnds t).Reporting (State.delivered { s with
      channels := s.channels.set c { s.channels.get c with slots := setSlot j.delivered .free (s.channels.get c).slots }
      lines := s.lines.set t ((s.blockSent c t j x data).deliveredLine t) } c t j.oneMore x p e) [.job t] := by
  have hjob : (s.blockSent c t j x data).job t = some j.oneMore := withJob_job ..
  have hparams : ((s.blockSent c t j x data).channels.get c).params = some x := by simp [State.blockSent, State.withJob, hx]
  have hcheck : ((s.blockSent c t j x data).channels.get c).check
      = some (crc32Over reg (payloadOf x.length j.delivered data)) := by simp [State.blockSent, State.withJob, hreg]
  rw [lastBlock_ends hm hc hj hx hd hlast]
  rcases hk with hk | ⟨hk, htd⟩
  · rw [endStream_memory hparams hcheck hmatch hk, deliver_eq hjob hparams hp he]
    refine ⟨_, ?_, fun y => Iff.rfl⟩
    simp [State.delivered, State.blockSent, State.withJob, Channel.left, hr]
  · obtain ⟨l, e2, hl⟩ := setJobState_reporting hjob .finishing
    rw [endStream_lane hparams hcheck hmatch hk, e2, if_pos (by exact htd),
      deliver_eq (j := { j.oneMore with state := .finishing }) (p := p) (e := e)
        (by exact withJob_job (s.blockSent c t j x data) t _) (by exact hparams) hp he]
    refine ⟨.job t :: (l ++ []), ?_, fun y => ?_⟩
    · simp [State.delivered, State.blockSent, State.withJob, Channel.left, hr, State.deliveredLine, State.record]
    · simpa using hl y

end

theorem memoryTargetDelivered : Claims.MemoryTargetDelivered := by
  intro s t tdone c j x data reg p e hr hm hc hj hk hx hreg hd hlast hp he hmatch j1 y s1
  have hrep := lastBlock_delivers (s := s.tdoneTold t tdone) hm hc hj hx hreg hd hlast hp he hmatch rfl (.inl hk)
  refine (happens_reporting_job (k := j1) (by exact hr) hrep rfl (delivered_job ..)).trans ?_
  rw [State.deliveredLine, if_pos (by exact hk)]
  simp [State.blockSent, State.withJob, s1, y, j1, Job.oneMore, State.tdoneTold]
  rfl

theorem laneTargetDelivered : Claims.LaneTargetDelivered := by
  intro s t c j x data reg p e hr hm hc hj hk hx hreg hd hlast hp he hmatch j1 s1
  have hrep := lastBlock_delivers (s := s.tdoneTold t true) hm hc hj hx hreg hd hlast hp he hmatch rfl
    (.inr ⟨hk, by simp [State.tdoneTold]⟩)
  refine (happens_reporting_job (k := j1) (by exact hr) hrep rfl (delivered_job ..)).trans ?_
  rw [State.deliveredLine, if_neg (by rw [show (((s.tdoneTold t true).blockSent c t j x data).record t).kind = .lane from hk]; simp)]
  simp [State.blockSent, State.withJob, s1, j1, Job.oneMore, State.tdoneTold]

theorem laneTargetFinishes : Claims.LaneTargetFinishes := by
  intro s t c j x data reg hr hm hc hj hk hs hx hreg hd hlast hmatch j1
  have hparams : (((s.tdoneTold t false).blockSent c t j x data).channels.get c).params = some x := by
    simp [State.blockSent, State.withJob, State.tdoneTold, hx]
  have hcheck : (((s.tdoneTold t false).blockSent c t j x data).channels.get c).check
      = some (crc32Over reg (payloadOf x.length j.delivered data)) := by
    simp [State.blockSent, State.withJob, State.tdoneTold, hreg]
  refine happens_job (s := s.updPins fun x => { x with tdone := x.tdone.set t false }) (l := [.job t]) (by exact hr)
    ((lastBlock_ends (s := s.tdoneTold t false) hm hc hj hx hd hlast).trans ?_) rfl (withJob_job ..) (by simp)
  rw [endStream_lane hparams hcheck hmatch hk, setJobState_new (s := (s.tdoneTold t false).blockSent c t j x data) (j := j.oneMore)
      (withJob_job ..) (by simp [Job.oneMore, hs]),
    if_neg (by simp [State.blockSent, State.withJob, State.tdoneTold])]
  simp [State.blockSent, State.withJob, State.updLine, State.tdoneTold, j1, Job.oneMore, hreg, State.record]

/-- Settles O19. -/
theorem streamEnds : Obligations.StreamEnds := ⟨memoryTargetDelivered, laneTargetFinishes, laneTargetDelivered⟩

end Sys2Proof.Machine
end

section
/-! SUPPORT. The ends of attempts that the lane, the target and a refusing port bring about (O20, O21, O23, O24). -/

namespace Sys2Proof.Machine

variable {s u w : State} {t : Target} {j k : Job} {c : Chan} {p q : Position} {e : SourceEntry} {x : StreamParams} {data : List Byte}
  {reg : Word32} {o : AttemptOutcome} {tdone : Bool} {ph : Phase}

/-! ### What the end of a fetch reads of a state -/

/-- The relation does not read the job record that stands. -/
theorem State.FetchEnded.overJob (h : s.FetchEnded c t j q o u k) (z : Job) : (s.withJob t z).FetchEnded c t j q o u k := by
  unfold State.FetchEnded at h ⊢
  dsimp only at h ⊢
  split at h
  · rename_i hd
    rw [if_pos (by exact hd)]
    obtain ⟨rfl, rfl⟩ := h
    exact ⟨rfl, (withJob_withJob (s.cleared c t j.fromHost) t z _).symm⟩
  · rename_i hd
    rw [if_neg (by exact hd)]
    exact State.Moved.overJob h z

/-- R84: what the end of a fetch clears is not read by the relation. -/
theorem State.FetchEnded.of_cleared (hw : w.cleared c t j.fromHost = s.cleared c t j.fromHost)
    (h : s.FetchEnded c t j q o u k) : w.FetchEnded c t j q o u k := by
  have hstore : (w.cleared c t j.fromHost).store = (s.cleared c t j.fromHost).store := by rw [hw]
  replace hstore : w.store = s.store := hstore
  have hjob : w.endedJob t j q o = s.endedJob t j q o := by
    simp only [State.endedJob, State.record, hstore]
  unfold State.FetchEnded at h ⊢
  rw [hw, hjob]
  exact h

/-- R80, R84: the end of a fetch whose block on the lane has been sent. -/
theorem blockSent_cleared (s : State) (c : Chan) (t : Target) (j : Job) (x : StreamParams) (data : List Byte) (host : Bool) :
    (s.blockSent c t j x data).cleared c t host = State.withJob (State.cleared { s with
      channels := s.channels.set c { s.channels.get c with slots := setSlot j.delivered .free (s.channels.get c).slots } } c t host)
        t j.oneMore := by
  simp [State.blockSent, State.withJob, State.cleared, State.record, TargetPort.stopLane]
  rfl

/-- R82: the last block of a stream whose check differs. -/
theorem checksumEndsFetch : Claims.ChecksumEndsFetch := by
  intro s t tdone c j x data reg q u k hr hm hc hj hs hx hreg hd hlast hne hw hq hph h
  have hparams : (((s.tdoneTold t tdone).blockSent c t j x data).channels.get c).params = some x := by
    simp [State.blockSent, State.withJob, State.tdoneTold, hx]
  have hcheck : (((s.tdoneTold t tdone).blockSent c t j x data).channels.get c).check
      = some (crc32Over reg (payloadOf x.length j.delivered data)) := by
    simp [State.blockSent, State.withJob, State.tdoneTold, hreg]
  have hended : ((s.tdoneTold t tdone).blockSent c t j x data).FetchEnded c t j.oneMore q .checksum u k :=
    (State.FetchEnded.overJob h j.oneMore).of_cleared (blockSent_cleared ..)
  refine happens_reporting_job (s := s.updPins fun y => { y with tdone := y.tdone.set t tdone }) (f := (·.deliveryEnds t)) (by exact hr) ?_
    h.lands.raised h.lands.job
  show ((s.tdoneTold t tdone).deliveryEnds t).Reporting u [.job t]
  rw [lastBlock_ends (s := s.tdoneTold t tdone) hm hc hj hx hd hlast, endStream_differs hparams hcheck hne]
  exact endFetch_reporting_job (withJob_job ..) hq hph hended hw

/-- R72, R98: the claim of the next block on a port that refuses ends the fetch. -/
theorem placeClaim_refused (hj : s.job t = some j) (he : j.entry = some e) (hs : j.state = .streaming)
    (hr : s.refuses e.port = true) (hc : mayClaim j (s.channels.get c) = true) : s.placeClaim c t = State.endFetch { s with
      channels := s.channels.set c { s.channels.get c with issue := (s.channels.get c).issue + 1 } } c t .noPort := by
  rw [State.placeClaim, hj]
  dsimp only
  rw [he]
  dsimp only
  rw [if_pos hc, if_pos hr, State.endAttempt, show (State.updChannel ..).job t = some j from hj]
  dsimp only
  rw [hs]
  rfl

theorem refusedClaimEndsAttempt : Claims.RefusedClaimEndsAttempt := by
  refine ⟨?_, ?_⟩
  · intro s c t rest j ds p ps u k hr hc hcl hq hj hs heff hds hen hno j1 hrest h
    exact happens_reporting_job (f := (·.takeHead c)) hr (takeHead_refused (s := { s with raised := [] }) hc hq hj (by simp [hs]) rfl
      heff hds hen hno hcl hrest h) h.lands.raised h.lands.job
  · intro s t tdone c j e x data q u k hr hm hc hj hs he hno hx hd hne hw hq hph y j1 hheld hmay h
    have hends := deliveryEnds_eq (s := s.tdoneTold t tdone) hm hc hj hx hd
    have hjob : ((s.tdoneTold t tdone).blockSent c t j x data).job t = some j.oneMore := withJob_job ..
    have hcleared : (State.cleared { (s.tdoneTold t tdone).blockSent c t j x data with
          channels := (((s.tdoneTold t tdone).blockSent c t j x data).channels.set c { y with
            check := (s.channels.get c).check.map fun reg => crc32Over reg (payloadOf x.length j.delivered data)
            issue := y.issue + 1 }) } c t j1.fromHost) = State.withJob (State.cleared { s.tdoneTold t tdone with
          channels := s.channels.set c { y with issue := y.issue + 1 } } c t j1.fromHost) t j1 := by
      simp [State.blockSent, State.withJob, State.cleared, State.record, TargetPort.stopLane, y, State.tdoneTold]
      exact ⟨rfl, rfl⟩
    have hended := (State.FetchEnded.overJob h j1).of_cleared hcleared
    refine happens_reporting_job (s := s.updPins fun y => { y with tdone := y.tdone.set t tdone }) (f := (·.deliveryEnds t)) (by exact hr) ?_
      h.lands.raised h.lands.job
    show ((s.tdoneTold t tdone).deliveryEnds t).Reporting u [.job t]
    have hch : ((s.tdoneTold t tdone).blockSent c t j x data).channels.get c = { y with
        check := (s.channels.get c).check.map fun reg => crc32Over reg (payloadOf x.length j.delivered data) } := by
      simp [State.blockSent, State.withJob, State.tdoneTold, y]
    rw [hends, if_neg hne, handOff_stays (x := x) hjob (by rw [hch]; exact hx) (.inr (by rw [hch]; exact hheld)),
      placeClaim_refused hjob he hs hno (by rw [hch]; exact hmay), hch]
    exact endFetch_reporting_job (j := j1) (by exact hjob) hq hph hended hw

/-- Settles O21. -/
theorem searchMovesOn : Obligations.SearchMovesOn := ⟨refusedClaimEndsAttempt, drainMovesOn⟩

end Sys2Proof.Machine
end

section
/-! SUPPORT. The inputs and the timers of the Target Ports (O20, O22 to O26). -/

namespace Sys2Proof.Machine

variable {s u : State} {t : Target} {j k : Job} {c : Chan} {p q : Position} {e : SourceEntry} {x : StreamParams} {o : AttemptOutcome}
  {ph : Phase}

/-! ### Inputs and the pulse (R127 to R130, R134) -/

theorem lineInputsAndPulse : Claims.LineInputsAndPulse := by
  intro s t hr x
  refine ⟨fun hl => ?_, fun b left hl hb hle => ?_, fun hp hl => ?_, fun hp hl hw => ?_, fun b hp hl hw hb => ?_, ?_⟩
  · refine happens_quiet _ _ _ (by exact hr) ?_ rfl
    rw [State.updLine, TargetPort.trdyAsserts, if_pos (by exact hl)]
    rfl
  · refine happens_quiet _ _ _ (by exact hr) ?_ rfl
    rw [State.updLine, TargetPort.trdyDeasserts, if_pos (by exact hl)]
    simp only [State.updPins]
    rw [show (s.lines.get t).block = some b from hb]
    rfl
  · refine happens_quiet _ _ _ (by exact hr) ?_ rfl
    rw [State.updLine, TargetPort.pulseExpires, if_pos (by exact hp)]
    dsimp only
    rw [if_neg (by exact hl)]
  · refine happens_quiet _ _ _ (by exact hr) ?_ rfl
    rw [State.updLine, TargetPort.pulseExpires, if_pos (by exact hp)]
    dsimp only
    rw [if_pos (by exact hl), TargetPort.becomeReleased]
    dsimp only
    rw [if_neg (by exact hw)]
  · refine happens_quiet _ _ _ (by exact hr) ?_ rfl
    rw [State.updLine, TargetPort.pulseExpires, if_pos (by exact hp)]
    dsimp only
    rw [if_pos (by exact hl), TargetPort.becomeReleased]
    dsimp only
    rw [if_pos (by exact hw), TargetPort.offer, show (s.lines.get t).block = some b from hb]
    rfl
  · exact happens_quiet _ _ _ (by exact hr) rfl rfl

theorem pulseKeepsAssertionLong : Claims.PulseKeepsAssertionLong := by
  intro x tflt trdy r
  refine ⟨fun h => ?_, fun h => ?_, fun h => ?_, fun h hp => ?_, fun h hp hl => ?_⟩
  · rw [TargetPort.assert, if_pos h]
    rfl
  · rw [TargetPort.assert, if_neg h]
  · rw [TargetPort.release, if_pos h]
  · rw [TargetPort.release, if_neg h, if_pos hp]
  · rw [TargetPort.release, if_neg h, if_neg (by simp [hp]), TargetPort.becomeReleased]
    exact if_neg hl

/-- Settles O22. -/
theorem lineAndLaneInputs : Obligations.LineAndLaneInputs := ⟨lineInputsAndPulse, pulseKeepsAssertionLong⟩

/-! ### Faults (R134, R135) -/

theorem busy_of (hj : s.job t = some j) : s.busy t = !j.state.isFinal := by
  rw [State.busy, hj]

/-- R135: a fault ends the running attempt. -/
theorem takeFault_ends (hc : s.channelOf t = some c) (hj : s.job t = some j) (hs : j.state = .streaming ∨ j.state = .finishing) :
    s.takeFault t = s.endFetch c t .targetFault := by
  have hb : s.busy t = true := by
    rw [busy_of hj]
    rcases hs with hs | hs <;> rw [hs] <;> rfl
  rw [State.takeFault, if_pos hb, hc, hj]
  exact if_pos hs

theorem exec_tfltAssert (h : s.pins.tflt.get t = false) : exec (.tfltAssert t) s
    = happensWantFirst (·.tfltAsserts t) { s with pins := { s.pins with tflt := s.pins.tflt.set t true } } := by
  change (if s.pins.tflt.get t then Host.Outcome.next s else _) = _
  rw [if_neg (by simp [h])]
  rfl

/-- R134: a fault is taken where the line is RELEASED. -/
theorem tfltAsserts_takes (h : (s.lines.get t).line = .released) : s.tfltAsserts t = s.takeFault t := if_pos h

/-- R134: a pending fault is taken. -/
theorem pendingFault_takes (h : (s.lines.get t).faultPending = true) :
    s.pendingFault t = (s.updLine t fun x => { x with faultPending := false }).takeFault t := if_pos h

theorem targetFaultEndsAttempt : Claims.TargetFaultEndsAttempt := by
  intro s t c j q u k hr hc hj hs hw hq hph
  refine ⟨fun ht hl h => ?_, fun hp h => ?_⟩
  · rw [exec_tfltAssert ht]
    refine happensWantFirst_reporting_job (by exact hr) ?_ h.lands.raised h.lands.job
    rw [tfltAsserts_takes (by exact hl), takeFault_ends (by exact hc) (by exact hj) hs]
    exact endFetch_reporting_job (by exact hj) hq hph h hw
  · refine happensWantFirst_reporting_job (f := (·.pendingFault t)) hr ?_ h.lands.raised h.lands.job
    show (State.pendingFault { s with raised := [] } t).Reporting u [.job t]
    rw [pendingFault_takes (by exact hp), takeFault_ends (by exact hc) (by exact hj) hs]
    exact endFetch_reporting_job (s := State.updLine { s with raised := [] } t _) hj hq hph h hw

/-- R21, R136: a fault of a LOADED target with no non-final job and no reload. -/
theorem takeFault_faulted (hj : s.job t = some j) (hf : j.state.isFinal = true) (hl : (s.jobs.get t).condition = .loaded)
    (hr : ((s.record t).present && (s.record t).reload) = false) : s.takeFault t
      = { s with jobs := s.jobs.set t { s.jobs.get t with condition := .faulted }, raised := .job t :: s.raised } := by
  rw [State.takeFault, if_neg (by simp [busy_of hj, hf]), if_pos hl]
  dsimp only
  rw [if_neg (by simp [hr]), setCondition_new (by simp [hl])]

theorem faultAfterDelivery : Claims.FaultAfterDelivery := by
  intro s t j hr hj hf hl hre jobs
  have hj' : (s.jobs.get t).job = some j := hj
  refine ⟨fun ht hline => ?_, fun hp => ?_⟩
  · rw [exec_tfltAssert ht]
    exact happensWantFirst_job (by exact hr) ((tfltAsserts_takes (by exact hline)).trans (takeFault_faulted (by exact hj) hf hl hre)) rfl
      (by simp [State.job, jobs, hj']) (l := [.job t]) (by simp)
  · exact happensWantFirst_job hr ((pendingFault_takes (by exact hp)).trans (takeFault_faulted (by exact hj) hf hl hre)) rfl
      (by simp [State.job, jobs, hj']) (l := [.job t]) (by simp)

/-- R21, R136: a fault of a LOADED target whose record asks for a reload. -/
theorem takeFault_reloads (hj : s.job t = some j) (hf : j.state.isFinal = true) (hl : (s.jobs.get t).condition = .loaded)
    (hp : (s.record t).present = true) (hr : (s.record t).reload = true) : s.takeFault t
      = State.createJob { s with jobs := s.jobs.set t { s.jobs.get t with condition := .faulted }, raised := .job t :: s.raised }
        t .faultReload false none := by
  rw [State.takeFault, if_neg (by simp [busy_of hj, hf]), if_pos hl]
  dsimp only
  rw [if_pos (by simp [hp, hr]), setCondition_new (by simp [hl])]

/-- R21, R134: the state in which TFLT's assertion has made the target FAULTED. -/
def State.faultTaken (s : State) (t : Target) : State := { s with
  pins := { s.pins with tflt := s.pins.tflt.set t true }
  jobs := s.jobs.set t { s.jobs.get t with condition := .faulted }
  raised := [.job t] }

/-- The state in which the event of TFLT's assertion acts. -/
def State.faultTold (s : State) (t : Target) : State :=
  { s with pins := { s.pins with tflt := s.pins.tflt.set t true }, raised := [] }

theorem faultReloads : Claims.FaultReloads := by
  intro s t j hr hj hf hl hp hre ht hline
  have hj' : (s.jobs.get t).job = some j := hj
  have hjob : (s.faultTaken t).job t = some j := by simpa [State.job, State.faultTaken] using hj'
  have heff : (s.faultTaken t).effectiveSet t none = s.effectiveSet t none := rfl
  have htake : (s.faultTold t).tfltAsserts t = (s.faultTaken t).createJob t .faultReload false none :=
    (tfltAsserts_takes (s := s.faultTold t) hline).trans (takeFault_reloads (s := s.faultTold t) hj hf hl hp hre)
  have hexec := happensWantFirst_job (s := { s with pins := { s.pins with tflt := s.pins.tflt.set t true } }) (t := t)
    (l := [.job t, .job t]) (k := (s.faultTaken t).createdJob t .faultReload false none) (f := (·.tfltAsserts t)) (by exact hr)
    (u := { (s.faultTaken t).createJob t .faultReload false none with raised := [] })
    (htake.trans (by rw [createJob_eq]; rfl)) rfl (by rw [createJob_eq]; simp [State.job]) (by simp)
  rw [createJob_eq] at hexec
  have htag : ((s.faultTaken t).createdJob t .faultReload false none).tag = j.tag := by
    rw [State.createdJob, hjob]
    rfl
  refine ⟨_, _, (exec_tfltAssert ht).trans hexec, by simp [State.withJobReport, State.withReport, State.job], rfl, rfl, htag, rfl, rfl,
    ?_, ?_, ?_, ?_, fun hnone => ?_, fun hsome => ?_, fun v hv => ?_⟩
  · simp [State.withJobReport, State.withReport, State.faultTaken]
  · simp [State.withJobReport, State.withReport, State.faultTaken]
  · simp [State.withJobReport, State.withReport, TargetPort.assert]
  · simp [State.withJobReport, State.withReport, TargetPort.assert, State.faultTaken, hline, Config.pulseMs]
  · simp [State.createdJob, heff, hnone]
  · simp [State.createdJob, heff, hsome, newJob]
  · simp [State.withJobReport, State.withReport, State.faultTaken, PerTarget.get_set, hv]

/-- Settles O26. -/
theorem faultsAfterDelivery : Obligations.FaultsAfterDelivery := ⟨faultAfterDelivery, faultReloads⟩

/-! ### TDONE (R132, R133) -/

theorem tdoneTaken_other (hj : s.job t = some j) (hs : j.state ≠ .finishing) : s.tdoneTaken t = s := by
  unfold State.tdoneTaken
  rw [hj]
  cases s.channelOf t with
  | none => rfl
  | some c => exact if_neg hs

theorem tdoneTaken_finishing (hc : s.channelOf t = some c) (hj : s.job t = some j) (hs : j.state = .finishing) :
    s.tdoneTaken t = s.deliver c t := by
  unfold State.tdoneTaken
  rw [hj, hc]
  exact if_pos hs

/-- Settles O25. -/
theorem tdoneDelivers : Obligations.TdoneDelivers := by
  intro s t j hr hj hk
  refine ⟨fun c x p e hc hs hx hp he => ?_, fun hs => ?_⟩
  · refine (happens_job (s := s.updPins fun y => { y with tdone := y.tdone.set t true }) (by exact hr)
      ((tdoneTaken_finishing (s := s.tdoneTold t true) hc hj hs).trans (deliver_eq (s := s.tdoneTold t true) hj hx hp he)) rfl
      (delivered_job ..) (l := [.job t]) (by simp)).trans ?_
    rw [State.deliveredLine, if_neg (by rw [show ((s.tdoneTold t true).record t).kind = .lane from hk]; simp)]
    rfl
  · exact happens_quiet _ _ _ (by exact hr) (tdoneTaken_other (s := s.tdoneTold t true) hj hs) rfl

/-! ### The end of a fetch in any phase (R84) -/

/-- R84, R13, R45: the job after its fetch has ended with the outcome logged in its phase. -/
def State.endedIn (s : State) (t : Target) (j : Job) (p : Position) (ph : Phase) (o : AttemptOutcome) : Job :=
  { j.logged p ph o with candidates := if (s.record t).mode = .newest then j.candidates.tail else j.candidates }

theorem cleared_unwanted (h : s.wanted.any (·.target = t) = false) (host : Bool) : (s.cleared c t host).wanted = s.wanted := by
  refine List.filter_eq_self.2 fun w hw => ?_
  simpa using List.any_eq_false.1 h w hw

/-- R84: with no wanted block, the end of a fetch clears the attempt and logs the outcome before the search moves on. -/
theorem endFetch_steps (hj : s.job t = some j) (hp : j.position = some p) (hph : j.phase = some ph)
    (hw : s.wanted.any (·.target = t) = false) : s.endFetch c t o
      = (let s3 := State.withJob { s.cleared c t j.fromHost with raised := .job t :: s.raised } t (s.endedIn t j p ph o)
        if s3.draining c then s3.setJobState t .draining else s3.moveOn c t) := by
  have host : s.readsHost t = j.fromHost := by
    simp only [State.readsHost, hj, Job.fromHost]
    cases j.entry <;> rfl
  have hclear : (s.clearAttempt c t).updChannel c (fun x => { x with check := none }) = { s with
      channels := (s.cleared c t j.fromHost).channels
      lines := s.lines.set t { s.lines.get t with lane := .idle, block := none, ready := none, done := none } } := by
    simp [State.clearAttempt, host, State.cancelHost, hw, State.stopLane, TargetPort.stopLane, State.updLine, State.updChannel,
      State.cleared, discard]
  have hlog : ((s.clearAttempt c t).updChannel c fun x => { x with check := none }).recordOutcome t o
      = { State.withJob { s with
        channels := (s.cleared c t j.fromHost).channels
        lines := s.lines.set t { s.lines.get t with lane := .idle, block := none, ready := none, done := none } } t
          (j.logged p ph o) with raised := .job t :: s.raised } := by
    rw [hclear, State.recordOutcome, updJob_eq (j := j) (by exact hj), recordOutcome_logged j p ph o hp hph]
    rfl
  have key : ∀ a b : State, a = b → (if a.draining c then a.setJobState t .draining else a.moveOn c t)
      = if b.draining c then b.setJobState t .draining else b.moveOn c t := by
    rintro a _ rfl
    rfl
  unfold State.endFetch
  refine key _ _ ?_
  rw [hlog]
  have hm : (s.record t).mode = .first ∨ (s.record t).mode = .newest := by cases (s.record t).mode <;> simp
  have hun : s.wanted.filter (fun w => !decide (w.target = t)) = s.wanted := cleared_unwanted (c := c) hw j.fromHost
  by_cases hk : (s.record t).kind = .lane <;> rcases hm with hm | hm <;>
    simp [hk, hm, hun, State.assertLine, State.updLine, State.dropHead, State.updJob, State.updSlot, State.withJob, State.cleared,
      State.endedIn, Job.logged]

theorem endAttempt_fetch (hj : s.job t = some j) (hs : j.state = .streaming ∨ j.state = .finishing) :
    s.endAttempt c t o = s.endFetch c t o := by
  unfold State.endAttempt
  rw [hj]
  dsimp only
  rcases hs with hs | hs <;> rw [hs]

theorem readyExpires_ends (hready : (s.lines.get t).ready.isSome = true) (hc : s.channelOf t = some c) (hj : s.job t = some j)
    (hs : j.state = .streaming) : s.readyExpires t = (s.updLine t (·.stopLane)).endFetch c t .readyTimeout := by
  rw [State.readyExpires, if_pos hready]
  dsimp only
  rw [show (s.updLine t (·.stopLane)).channelOf t = some c from hc]
  exact endAttempt_fetch hj (.inl hs)

theorem doneExpires_ends (hdone : (s.lines.get t).done.isSome = true) (hc : s.channelOf t = some c) (hj : s.job t = some j)
    (hs : j.state = .finishing) : s.doneExpires t = (s.updLine t fun x => { x with done := none }).endFetch c t .doneTimeout := by
  rw [State.doneExpires, if_pos hdone]
  dsimp only
  rw [show (s.updLine t fun x => { x with done := none }).channelOf t = some c from hc]
  exact endAttempt_fetch hj (.inr hs)

/-- Settles O23: with reads in flight the job drains. -/
theorem readyTimeoutDrains : Obligations.ReadyTimeoutDrains := by
  intro s t c j e p ph hr hready hc hj hs hp hph he hport hw hfly j1 idle
  have hhost : j.fromHost = false := by simp [Job.fromHost, he, hport]
  have hends := (readyExpires_ends (s := { s with raised := [] }) hready hc hj hs).trans
    (endFetch_steps (s := State.updLine { s with raised := [] } t (·.stopLane)) hj hp hph hw)
  refine happensWantFirst_job (f := (·.readyExpires t)) (l := [.job t, .job t]) hr (hends.trans ?_) rfl (withJob_job ..) (by simp)
  dsimp only
  rw [if_pos ?_, setJobState_new (withJob_job ..) (by simp [State.endedIn, Job.logged, hs]), withJob_withJob]
  · have hun : s.wanted.filter (fun w => !decide (w.target = t)) = s.wanted := cleared_unwanted (c := c) hw j.fromHost
    simp [State.cleared, State.withJob, State.updLine, TargetPort.stopLane, hun, hhost, State.endedIn, Job.logged, j1, idle,
      State.record]
    exact ⟨rfl, rfl⟩
  · obtain ⟨y, hy, hin⟩ := List.any_eq_true.1 hfly
    refine List.any_eq_true.2 ⟨y, ?_, hin⟩
    simp only [State.cleared, State.withJob, State.updLine, PerChan.get_set_same, List.mem_map, hhost]
    exact ⟨y, hy, by simp [hin]⟩

/-- Reports put before a list that holds them leave its members. -/
theorem raised_into {r : ReportId} {l m : List ReportId} (hl : ∀ x ∈ l, x = r) (x : ReportId) : x ∈ l ++ r :: m ↔ x ∈ r :: m := by
  simp only [List.mem_append, List.mem_cons]
  exact ⟨fun h => h.elim (fun h => .inl (hl x h)) id, .inr⟩

/-- R84, R37: with nothing in flight, the end of a fetch at the last position of the last pass leaves the job FAILED. -/
theorem endFetch_fails (hj : s.job t = some j) (hp : j.position = some p) (hph : j.phase = some ph)
    (hw : s.wanted.any (·.target = t) = false) (hm : (s.record t).mode = .first) (hrest : j.rest = [])
    (hslots : (s.channels.get c).slots = [.free, .free, .free, .free]) (hl : j.passLimit ≠ 0) (hle : j.passLimit ≤ j.pass) :
    let w := s.cleared c t j.fromHost
    (s.endFetch c t o).Reporting (State.withJob { w with channels := w.channels.set c (w.channels.get c).left } t
      (j.logged p ph o).outOfPasses) (.job t :: s.raised) := by
  intro w
  have hfree : w.draining c = false := by simp [w, State.draining, State.cleared, hslots, Slot.isInFlight]
  have hended : s.endedIn t j p ph o = j.logged p ph o := by
    rw [State.endedIn, hm]
    rfl
  have hmoved := (State.Moved.failed w c (t := t) (j := j.logged p ph o) hm hrest hl hle).written (j.logged p ph o) (.job t :: s.raised)
  obtain ⟨l, e, hl, -⟩ := moveOn_moved _ c t _ _ _ (by exact withJob_job w t (j.logged p ph o)) hmoved
  rw [endFetch_steps hj hp hph hw, hended]
  dsimp only
  rw [if_neg (by exact hfree ▸ Bool.false_ne_true)]
  exact ⟨_, e, raised_into hl⟩

/-- Settles O24: the search of the last position ends the last pass. -/
theorem doneTimeoutFails : Obligations.DoneTimeoutFails := by
  intro s t c j p ph hr hdone hc hj hs hp hph hw hk hm hrest hslots hl hle j1
  have hrep := endFetch_fails (s := State.updLine { s with raised := [] } t fun x => { x with done := none }) (c := c)
    (o := .doneTimeout) hj hp hph hw hm hrest hslots hl hle
  rw [← doneExpires_ends (s := { s with raised := [] }) hdone hc hj hs] at hrep
  refine (happens_reporting_job (f := (·.doneExpires t)) hr hrep rfl (withJob_job ..)).trans ?_
  have hun : s.wanted.filter (fun w => !decide (w.target = t)) = s.wanted := cleared_unwanted (c := c) hw j.fromHost
  have hk' : (s.store.setup.targets.get t).kind = .lane := hk
  simp [State.cleared, State.withJob, State.updLine, hun, Job.outOfPasses, Job.logged, j1, State.record, Channel.left, hslots, hk']

end Sys2Proof.Machine
end

section
/-! SUPPORT. The wanted set: DATA frames and the host block timers (O20, O27, O28). -/

namespace Sys2Proof.Machine

variable {s u v : State} {t : Target} {j k : Job} {c : Chan} {p q : Position} {e : SourceEntry} {x : StreamParams} {o : AttemptOutcome}
  {ph : Phase} {tag b : Byte} {n : Nat} {f : Chan → State → State} {fr : Frame} {d : DataFields} {data : List Byte} {rs : List ReportId}

/-! ### The end of a wanted entry (R116, R118) -/

/-- R115: whether a wanted entry is the one of a key. -/
def Wanted.hasKey (t : Target) (tag : Byte) (n : Nat) (w : Wanted) : Bool := decide (w.target = t ∧ w.tag = tag ∧ w.block = n)

/-- The state in which the entry of a key has left the wanted set. -/
def State.unwanted (s : State) (t : Target) (tag : Byte) (n : Nat) : State :=
  { s with wanted := s.wanted.filter fun w => !w.hasKey t tag n }

theorem endWanted_none (h : s.wanted.any (Wanted.hasKey t tag n) = false) : s.endWanted t tag n f = s := by
  unfold State.endWanted
  dsimp only
  exact if_neg (by exact h ▸ Bool.false_ne_true)

theorem endWanted_eq (h : s.wanted.any (Wanted.hasKey t tag n) = true) (hc : s.channelOf t = some c) :
    s.endWanted t tag n f = (f c (s.unwanted t tag n)).raise (.want t) := by
  have hc' : ∀ ws, (s.setWanted ws).channelOf t = some c := fun _ => hc
  unfold State.endWanted
  dsimp only
  rw [if_pos (by exact h), hc']
  rfl

theorem State.Reporting.raise (h : v.Reporting u rs) (r : ReportId) : (v.raise r).Reporting u (r :: rs) := by
  obtain ⟨l, rfl, hl⟩ := h
  exact ⟨r :: l, rfl, fun x => by rw [List.mem_cons, List.mem_cons, hl]⟩

theorem State.Reporting.congr {rs' : List ReportId} (h : v.Reporting u rs) (hm : ∀ x, x ∈ rs ↔ x ∈ rs') : v.Reporting u rs' := by
  obtain ⟨l, e, hl⟩ := h
  exact ⟨l, e, fun x => (hl x).trans (hm x)⟩

/-- A WANT report raised once more is raised. -/
theorem State.Reporting.want_twice (h : v.Reporting u (.job t :: ((if s.wanted.any (·.target = t) then [ReportId.want t] else []) ++ []))) :
    (v.raise (.want t)).Reporting u [.job t, .want t] := by
  refine (h.raise (.want t)).congr fun x => ?_
  split <;> simp <;> tauto

theorem happens_congr {f g : State → State} (hr : s.pins.reset = false) (h : f { s with raised := [] } = g { s with raised := [] }) :
    happens f s = happens g s := by
  rw [happens, happens, event_running _ _ _ hr, event_running _ _ _ hr, h]

/-- R187: the state in which a good frame has been made known. -/
def State.heard (s : State) : State := { s with
  link := { s.link with receiver := .hunting, gap := none }
  reports := s.reports.endQuiet
  raised := [] }

/-- R116: the byte that ends a good DATA frame hands over its payload. -/
theorem exec_dataFrame (hr : s.pins.reset = false) (hb : s.link.receiver.classify b = .data fr) :
    exec (.dataFrame b) s = happens (fun x => x.goodFrame.dataFrame fr.payload) s := by
  refine happens_congr hr ?_
  dsimp only
  rw [hb]
  rfl

/-- R115: a frame that is malformed is discarded. -/
theorem dataFrame_malformed {payload : List Byte} (h : parseData payload = none) : s.dataFrame payload = s := by
  rw [State.dataFrame, h]

theorem dataFrame_ends {payload : List Byte} (h : parseData payload = some d) : s.dataFrame payload
    = s.endWanted d.target d.tag d.block fun c x => x.channelData c d.block d.data := by
  rw [State.dataFrame, h]

section
variable (hr : s.pins.reset = false) (hb : s.link.receiver.classify b = .data fr) (hd : parseData fr.payload = some d)
  (hany : s.wanted.any (Wanted.hasKey d.target d.tag d.block) = true) (hc : s.channelOf d.target = some c)
include hr hb hd hany hc

/-- R116: what the block of a wanted entry does raises the WANT report beside its own reports. -/
theorem dataFrame_acts : exec (.dataFrame b) s
    = happens (fun x => ((x.goodFrame.unwanted d.target d.tag d.block).channelData c d.block d.data).raise (.want d.target)) s := by
  rw [exec_dataFrame hr hb]
  refine happens_congr hr ?_
  rw [dataFrame_ends hd, endWanted_eq (by exact hany) (by exact hc)]

theorem dataFrame_wants {y : State} (hy : (s.heard.unwanted d.target d.tag d.block).channelData c d.block d.data = y)
    (hraised : y.raised = []) (hj : y.job d.target = some k) :
    exec (.dataFrame b) s = .next (y.withWantReport d.target k.tag) := by
  rw [dataFrame_acts hr hb hd hany hc]
  exact happens_want hr (by exact congrArg (State.raise · (.want d.target)) hy) hraised hj (l := .want d.target :: y.raised)
    (by simp [hraised])

theorem dataFrame_reports (h : (((s.heard.unwanted d.target d.tag d.block).channelData c d.block d.data).raise
      (.want d.target)).Reporting u [.job d.target, .want d.target]) (hraised : u.raised = []) (hj : u.job d.target = some k) :
    exec (.dataFrame b) s = .next ((u.withJobReport d.target k).withWantReport d.target k.tag) := by
  rw [dataFrame_acts hr hb hd hany hc]
  exact happens_reporting_job_want hr h hraised hj

end

theorem dataFrameMatches : Claims.DataFrameMatches := by
  intro s b f hr hb s1
  refine ⟨fun hd => ?_, fun d hd => ⟨fun hany => ?_, ?_⟩⟩
  · rw [exec_dataFrame hr hb]
    exact happens_quiet _ _ _ hr (dataFrame_malformed hd) rfl
  · rw [exec_dataFrame hr hb]
    exact happens_quiet _ _ _ hr ((dataFrame_ends hd).trans (endWanted_none hany)) rfl
  · intro c j e x hany hc hj hs he hport hx hh hlen slots s2
    have hh' : d.block ≠ 0 ∨ sameHeader x d.data = true := hh.imp id (sameHeader_iff x d.data).2
    obtain ⟨stays, goes⟩ := fetched_block (s := s2) (t := d.target) (c := c) (b := d.block) (data := d.data) hj hs hx hh'
      ((wrongLength_host hj he hport ..).trans (by simpa using hlen))
    have hch := channelData_streaming (s := s2) (channelOf_running hc) hj hs d.block d.data
    exact ⟨fun h => dataFrame_wants hr hb hd hany hc (hch.trans (stays h)) rfl hj,
      fun g hn hg => dataFrame_wants hr hb hd hany hc (hch.trans (goes g hn hg)) rfl hj⟩

theorem hostProbeIsJudged : Claims.HostProbeIsJudged := by
  intro s b f d c j e q u k hr hb hd hc hj hs he hport hq hph h0 hx hcl t hit x s1 freed hany
  have hch : s1.channelData c d.block d.data = s1.probeData c t j d.data :=
    channelData_probing (s := s1) (channelOf_running hc) hj hs ..
  refine ⟨fun o hv h => ?_, fun hv hm h => ?_, ?_⟩
  · refine dataFrame_reports hr hb hd hany hc ?_ h.lands.raised h.lands.job
    have hrep := (endProbe_reporting (s := s1.probeFreed c) hj hq hph h).raise (.want t)
    rw [← probeData_refused (s := s1) hv hx, ← hch] at hrep
    exact hrep.swap
  · obtain ⟨reports, silent⟩ := probeData_moved (s := s1) hv hm hx hj hq hs h
    split
    · rename_i hk
      exact dataFrame_wants hr hb hd hany hc (hch.trans (silent hk)) h.lands.raised h.lands.job
    · rename_i hk
      have hrep := (reports hk).raise (.want t)
      rw [← hch] at hrep
      exact dataFrame_reports hr hb hd hany hc hrep.swap h.lands.raised h.lands.job
  · intro hv hm hlen hhost j1 y
    have go := (probeData_first (s := s1) (c := c) hv hm).trans
      (acceptFirst_goes (s := s1) hj hs he (ready_refuses (by rw [hport]; exact hhost)) (fun _ => hlen) hx)
    refine (dataFrame_reports (k := j1) hr hb hd hany hc (?_ : State.Reporting _ (State.withJob { s1 with
        channels := s.channels.set c (y.claiming j1 e.port)
        lines := s.lines.set t ((s.startedLine t).take 0 (payloadOf x.length 0 d.data) (s.pins.trdy.get t) (s.record t)) } t j1) _)
      rfl (withJob_job ..)).trans ?_
    · refine (State.Reporting.raise (rs := [.job t]) ⟨[.job t], ?_, fun _ => Iff.rfl⟩ (.want t)).swap
      rw [h0] at hch
      exact (congrArg (fun n => (s1.channelData c n d.data)) h0).trans (hch.trans go)
    · rw [hport]
      rfl

/-- Settles O27. -/
theorem dataFrameMatchesWanted : Obligations.DataFrameMatchesWanted := ⟨dataFrameMatches, hostProbeIsJudged⟩

/-! ### The host block timer (R118) -/

theorem wantedExpires_ends {w : Wanted} (hw : s.wanted.find? (fun v => decide (v.target = t ∧ v.block = n)) = some w)
    (hc : s.channelOf t = some c) (hj : s.job t = some j) (hs : j.state = .probing ∨ j.state = .streaming) : s.wantedExpires t n
      = (((s.unwanted t w.tag n).putSlot c n .free).endAttempt c t .hostTimeout).raise (.want t) := by
  have hkey : s.wanted.any (Wanted.hasKey t w.tag n) = true := by
    have hfound := List.find?_some hw
    simp only [decide_eq_true_eq] at hfound
    exact List.any_eq_true.2 ⟨w, List.mem_of_find?_eq_some hw, decide_eq_true ⟨hfound.1, rfl, hfound.2⟩⟩
  rw [State.wantedExpires, hw]
  dsimp only
  rw [endWanted_eq hkey hc, channelFails_attempt (s := s.unwanted t w.tag n) (channelOf_running hc) hj hs]

theorem endAttempt_probe (hj : s.job t = some j) (hs : j.state = .probing) : s.endAttempt c t o = s.endProbe c t o := by
  unfold State.endAttempt
  rw [hj]
  dsimp only
  rw [hs]

/-- R75, R84, R120: the end of an attempt, which may cancel other HOST reads. -/
theorem endAttempt_wants (hj : s.job t = some j) (hp : j.position = some q) (h : s.AttemptEnded c t j q o u k)
    (hr : s.raised = []) : ((s.endAttempt c t o).raise (.want t)).Reporting u [.job t, .want t] := by
  rcases h with ⟨hs, hph, h⟩ | ⟨hs, hph, h⟩
  · rw [endAttempt_fetch hj (.inl hs)]
    have hrep := endFetch_reporting hj hp hph h
    rw [hr] at hrep
    exact hrep.want_twice
  · have hrep := endProbe_reporting hj hp hph h
    rw [hr] at hrep
    rw [endAttempt_probe hj hs]
    exact (hrep.raise (.want t)).swap

theorem hostTimeoutEndsAttempt : Claims.HostTimeoutEndsAttempt := by
  intro s t b w c j e q u k hr hw hc hj he hport hq h
  refine happens_reporting_job_want hr ?_ h.lands.raised h.lands.job
  show (State.wantedExpires { s with raised := [] } t b).Reporting u _
  rw [wantedExpires_ends (s := { s with raised := [] }) hw hc hj h.state]
  exact endAttempt_wants (s := (State.unwanted { s with raised := [] } t w.tag b).putSlot c b .free) hj hq h rfl

/-- R39, R37: the end of a probe, in whatever phase it is logged, at the last position of the last pass. -/
theorem endProbe_fails (hj : s.job t = some j) (hp : j.position = some p) (hph : j.phase = some ph)
    (hm : (s.record t).mode = .first) (hrest : j.rest = []) (hl : j.passLimit ≠ 0) (hle : j.passLimit ≤ j.pass) :
    let w := { s with channels := s.channels.set c { s.channels.get c with claim := none } }
    (s.endProbe c t o).Reporting (State.withJob { w with channels := w.channels.set c (w.channels.get c).left } t
      (j.logged p ph o).outOfPasses) (.job t :: s.raised) := by
  intro w
  have hstart : (s.updChannel c fun x => { x with claim := none }).recordOutcome t o
      = State.withJob { w with raised := .job t :: s.raised } t (j.logged p ph o) := by
    rw [State.recordOutcome, updJob_eq (j := j) (by exact hj), recordOutcome_logged j p ph o hp hph]
    rfl
  have hmoved := (State.Moved.failed w c (t := t) (j := j.logged p ph o) hm hrest hl hle).written (j.logged p ph o) (.job t :: s.raised)
  obtain ⟨l, e, hl, -⟩ := moveOn_moved _ c t _ _ _ (by exact withJob_job w t (j.logged p ph o)) hmoved
  rw [State.endProbe, hstart]
  exact ⟨_, e, raised_into hl⟩

theorem hostTimeoutEndsLastProbe : Claims.HostTimeoutEndsLastProbe := by
  intro s t c j w p ph hr hw hwt hwb hc hj hs hp hph hm hrest hl hle j1
  have hfind : (State.wanted { s with raised := [] }).find? (fun v => decide (v.target = t ∧ v.block = 0)) = some w := by
    simp [hw, hwt, hwb]
  have hends := (wantedExpires_ends (s := { s with raised := [] }) hfind hc hj (.inl hs)).trans
    (congrArg (State.raise · (.want t)) (endAttempt_probe (by exact hj) hs))
  have hrep := (endProbe_fails (s := (State.unwanted { s with raised := [] } t w.tag 0).putSlot c 0 .free) (c := c)
    (o := .hostTimeout) hj hp hph hm hrest hl hle).raise (.want t)
  refine (happens_reporting_job_want (f := (·.wantedExpires t 0)) hr (by rw [hends]; exact hrep.swap) rfl
    (withJob_job ..)).trans ?_
  simp [State.unwanted, State.putSlot, State.updChannel, hw, hwt, hwb, Wanted.hasKey, Job.outOfPasses, Job.logged, j1, Channel.left,
    State.withJob]

/-- Settles O28. -/
theorem hostTimeoutEndsProbe : Obligations.HostTimeoutEndsProbe := ⟨hostTimeoutEndsLastProbe, hostTimeoutEndsAttempt⟩

/-! ### Blocks of a wrong length (R81) -/

theorem fetchData_wrongLength (hx : (s.channels.get c).params = some x) (hh : n ≠ 0 ∨ sameHeader x data = true)
    (hw : s.wrongLength t x.length n data = true) : s.fetchData c t n data = (s.putSlot c n .free).endFetch c t .streamError := by
  rw [State.fetchData, hx]
  dsimp only
  rw [if_neg (fun h => hh.elim (fun h0 => h0 h.1) h.2), if_pos hw]

theorem fetchData_changedAt (h0 : n = 0) (hx : (s.channels.get c).params = some x) (hh : sameHeader x data = false) :
    s.fetchData c t n data = (s.putSlot c n .free).endFetch c t .changed := by
  rw [h0]
  exact fetchData_changed hx data hh

/-- R77, R40: the job of an accepted FIRST probe. -/
def Job.fetching (j : Job) : Job := { j with state := .streaming, phase := some .fetch, delivered := 0 }

/-- R77, R127: the state in which a FIRST probe has been accepted and its block 0 freed. -/
def State.acceptedFreed (s : State) (c : Chan) (t : Target) (data : List Byte) : State := { s with
  channels := s.channels.set c { s.channels.get c with
    slots := setSlot 0 .free (s.channels.get c).slots, params := some (streamParams data), check := some 0xFFFFFFFF#32 }
  lines := s.lines.set t (s.startedLine t) }

/-- R81, R77: an accepted FIRST probe whose HOST block has a wrong length ends the fetch it starts. -/
theorem acceptFirst_wrongLength (hj : s.job t = some j) (hs : j.state = .probing) (he : j.entry = some e) (hp : e.port = .host)
    (hl : data.length ≠ blockLength (streamParams data).length 0) : s.acceptFirst c t data
      = State.endFetch { (s.acceptedFreed c t data).withJob t j.fetching with raised := .job t :: s.raised } c t .streamError := by
  have hstart : ((s.updChannel c fun y => { y with params := some (streamParams data), check := some crc32Init }).updJob t fun j =>
        { j with phase := some .fetch, delivered := 0 }).setJobState t .streaming
      = { State.withJob { s with channels := s.channels.set c { s.channels.get c with
        params := some (streamParams data), check := some 0xFFFFFFFF#32 } } t j.fetching with raised := .job t :: s.raised } := by
    rw [updJob_eq (j := j) (by exact hj), setJobState_new (withJob_job ..) (by simp [hs]), withJob_withJob]
    rfl
  have hline := startedLine_eq (State.withJob { s with
    channels := s.channels.set c { s.channels.get c with params := some (streamParams data), check := some 0xFFFFFFFF#32 }
    raised := .job t :: s.raised } t j.fetching) t
  unfold State.acceptFirst
  dsimp only
  rw [hstart]
  refine (congrArg (fun w : State => if w.wrongLength t (streamParams data).length 0 data
    then (w.putSlot c 0 .free).endFetch c t .streamError else ((w.putSlot c 0 (.held 0 data)).handOff c t).placeClaim c t) hline).trans ?_
  dsimp only
  rw [if_pos ((wrongLength_host (j := j.fetching) (by exact withJob_job s t j.fetching) he hp ..).trans (by simpa using hl))]
  refine congrArg (State.endFetch · c t .streamError) ?_
  simp [State.putSlot, State.updChannel, State.acceptedFreed, State.withJob]
  rfl

theorem wrongLengthEndsFetch : Claims.WrongLengthEndsFetch := by
  intro s b f d c j e q u k hr hb hd hc hj he hport hq hit x s1 hany
  refine ⟨fun y hs hph hx hh hlen h => ?_, fun y hs hph hx h0 hh h => ?_, ?_⟩
  · have hrep := (endFetch_reporting (s := s1) hj hq hph h).want_twice
    refine dataFrame_reports hr hb hd hany hc ?_ h.lands.raised h.lands.job
    rw [channelData_streaming (s := s.heard.unwanted d.target d.tag d.block) (channelOf_running hc) hj hs,
      fetchData_wrongLength (x := y) (by exact hx) (hh.imp id (sameHeader_iff y d.data).2)
        ((wrongLength_host (by exact hj) he hport ..).trans (by simpa using hlen))]
    exact hrep
  · have hrep := (endFetch_reporting (s := s1) hj hq hph h).want_twice
    refine dataFrame_reports hr hb hd hany hc ?_ h.lands.raised h.lands.job
    have hne : sameHeader y d.data = false := by
      rw [← Bool.not_eq_true, sameHeader_iff]
      exact fun hs => hh.elim (fun hl => absurd hs.1 (by omega)) fun hd => hd hs.2
    rw [channelData_streaming (s := s.heard.unwanted d.target d.tag d.block) (channelOf_running hc) hj hs,
      fetchData_changedAt (x := y) h0 (by exact hx) hne]
    exact hrep
  · intro y hs hm h0 hv hlen h
    have hacc : (s.heard.unwanted d.target d.tag d.block).acceptedFreed c d.target d.data = { s1 with
        channels := s.channels.set c { x with params := some y, check := some 0xFFFFFFFF#32 }
        lines := s.lines.set d.target (s.startedLine d.target) } := by
      rw [State.acceptedFreed, ← h0]
      rfl
    have hended := State.FetchEnded.raising (withJob_job _ d.target j.fetching) (State.FetchEnded.overJob h j.fetching) [.job d.target]
    have hrep := (endFetch_reporting (j := j.fetching) (by exact withJob_job s d.target j.fetching) hq rfl hended).raise (.want d.target)
    refine dataFrame_reports hr hb hd hany hc ?_ h.lands.raised h.lands.job
    rw [channelData_probing (s := s.heard.unwanted d.target d.tag d.block) (channelOf_running hc) hj hs,
      probeData_first (s := s.heard.unwanted d.target d.tag d.block) hv hm,
      acceptFirst_wrongLength (s := s.heard.unwanted d.target d.tag d.block) hj hs he hport hlen, hacc]
    exact hrep.congr fun z => by split <;> simp <;> tauto

/-- Settles O20. -/
theorem attemptsEnd : Obligations.AttemptsEnd :=
  ⟨readErrorEndsAttempt, readBeyondCapacityEnds, changedHeaderEndsFetch, wrongLengthEndsFetch, checksumEndsFetch,
    targetFaultEndsAttempt⟩

end Sys2Proof.Machine
end

section
/-! SUPPORT. The receiver and the request path of the Host Link (O29 to O31). -/

namespace Sys2Proof.Machine

variable {s : State} {b : Byte} {got : List Byte} {x : Receiver}

/-! ### What a byte is (R162, R164) -/

theorem classify_length (h : got.length = 1) : (Receiver.receiving got).classify b = if goodLength b then .plain else .badLength := by
  rw [Receiver.classify, if_pos (by omega)]

theorem classify_inside (h2 : 2 ≤ got.length) (h : got.length + 1 < (byteAt got 1).toNat + 4) :
    (Receiver.receiving got).classify b = .plain := by
  rw [Receiver.classify, if_neg (by omega), if_pos h]

theorem classify_last (h2 : 2 ≤ got.length) (h : (byteAt got 1).toNat + 4 ≤ got.length + 1) :
    (Receiver.receiving got).classify b = match checkFrame (got ++ [b]) with
      | none => .badCheck
      | some f => if f.kind = kData then .data f else if f.kind = kReportAck then .ack f else .request f := by
  rw [Receiver.classify]
  exact (if_neg (by omega)).trans (if_neg (by omega))

theorem goodLength_iff : goodLength b = true ↔ 2 ≤ b.toNat ∧ b.toNat ≤ 242 := by
  simp [goodLength]

/-- R165: a discard count stops at 65,535. -/
theorem countUp_eq (n : Nat) : countUp n = if n < 65535 then n + 1 else n := rfl

/-! ### The byte handed to the receiver -/

/-- R162, R163: a byte that does not end its frame is appended. -/
theorem byteReceived_plain (hr : s.pins.reset = false) (hg : s.link.receiver = .receiving got)
    (hp : (Receiver.receiving got).classify b = .plain) : exec (.byteReceived b) s
      = .next { s with link := { s.link with receiver := .receiving (got ++ [b]), gap := some 10 }, raised := [] } := by
  refine happens_quiet _ _ _ hr ?_ rfl
  show State.receiveByte b { s with raised := [] } = _
  unfold State.receiveByte
  rw [show (State.link { s with raised := [] }).receiver = .receiving got from hg, hp]
  dsimp only
  rw [State.updLink, Link.appendByte, show (State.link { s with raised := [] }).receiver = .receiving got from hg]
  rfl

/-- R162: the sync byte starts a frame, and any other is ignored in HUNTING. -/
theorem byteReceived_hunting (hr : s.pins.reset = false) (hg : s.link.receiver = .hunting) : exec (.byteReceived b) s
      = .next { s with
        link := if b = 0xA5#8 then { s.link with receiver := .receiving [b], gap := some 10 } else s.link, raised := [] } := by
  refine happens_quiet _ _ _ hr ?_ rfl
  show State.receiveByte b { s with raised := [] } = _
  unfold State.receiveByte
  rw [show (State.link { s with raised := [] }).receiver = .hunting from hg]
  dsimp only [Receiver.classify]
  rw [State.updLink, Link.appendByte, show (State.link { s with raised := [] }).receiver = .hunting from hg]
  rfl

/-- R164: a length byte out of range discards the frame. -/
theorem byte_badLength (hr : s.pins.reset = false) (h : s.link.receiver.classify b = .badLength) :
    ∀ i ∈ [Instr.frameLengthDiscard b, .byteReceived b], exec i s = .next { s with
      link := { s.link with receiver := .hunting, gap := none, lengthDiscards := countUp s.link.lengthDiscards }, raised := [] } := by
  intro i hi
  simp only [List.mem_cons, List.not_mem_nil, or_false] at hi
  rcases hi with rfl | rfl
  · refine happens_quiet _ _ _ hr ?_ rfl
    dsimp only
    rw [h]
    rfl
  · refine happens_quiet _ _ _ hr ?_ rfl
    show State.receiveByte b { s with raised := [] } = _
    rw [State.receiveByte, h]
    rfl

/-- R164: a frame whose check fails is discarded. -/
theorem byte_badCheck (hr : s.pins.reset = false) (h : s.link.receiver.classify b = .badCheck) :
    ∀ i ∈ [Instr.frameCheckDiscard b, .byteReceived b], exec i s = .next { s with
      link := { s.link with receiver := .hunting, gap := none, checkDiscards := countUp s.link.checkDiscards }, raised := [] } := by
  intro i hi
  simp only [List.mem_cons, List.not_mem_nil, or_false] at hi
  rcases hi with rfl | rfl
  · refine happens_quiet _ _ _ hr ?_ rfl
    dsimp only
    rw [h]
    rfl
  · refine happens_quiet _ _ _ hr ?_ rfl
    show State.receiveByte b { s with raised := [] } = _
    rw [State.receiveByte, h]
    rfl

/-- Settles O29. -/
theorem receiverFindsFrames : Obligations.ReceiverFindsFrames := by
  intro s b hr hunting up lengthDiscard checkDiscard gapDiscard
  refine ⟨fun hg hb => ?_, fun hg hb => ?_, fun got hg h1 hlo hhi => ?_, fun got hg h2 hin => ?_, fun got hg h1 hbad => ?_,
    fun got hg h2 hlast hcheck => ?_, fun got hg => ?_, fun hg => ?_, fun hgap => ?_⟩
  · rw [byteReceived_hunting hr hg, if_pos hb]
  · rw [byteReceived_hunting hr hg, if_neg hb]
  · exact byteReceived_plain hr hg ((classify_length h1).trans (if_pos (goodLength_iff.2 ⟨hlo, hhi⟩)))
  · exact byteReceived_plain hr hg (classify_inside h2 hin)
  · exact byte_badLength hr (by rw [hg, classify_length h1, if_neg (by rw [goodLength_iff]; omega)])
  · exact byte_badCheck hr (by rw [hg, classify_last h2 hlast, hcheck])
  · refine happens_quiet _ _ _ hr ?_ rfl
    dsimp only
    rw [hg]
    rfl
  · refine happens_quiet _ _ _ hr ?_ rfl
    dsimp only
    rw [hg]
  · refine happens_quiet _ _ _ hr ?_ rfl
    dsimp only
    rw [if_pos hgap]
    rfl

/-! ### A whole frame (R162, R164, R172) -/

/-- The receipt of one byte, where the part answers with a next state. -/
def receiveOne (x : State) (b : Byte) : Option State :=
  match exec (.byteReceived b) x with
  | .next y => some y
  | .fault _ | .refused _ => none

/-- R162: the state in which the bytes `got` of a frame have been assembled. -/
def State.assembling (s : State) (got : List Byte) : State :=
  { s with link := { s.link with receiver := .receiving got, gap := some 10 }, raised := [] }

theorem receiveOne_plain (hr : s.pins.reset = false) (hp : (Receiver.receiving got).classify b = .plain) :
    receiveOne (s.assembling got) b = some (s.assembling (got ++ [b])) := by
  rw [receiveOne, byteReceived_plain (s := s.assembling got) hr rfl hp]
  rfl

/-- R162: the bytes behind the length byte, but for the frame's last, are appended one by one. -/
theorem receives_inside (hr : s.pins.reset = false) (bs : List Byte) : ∀ got : List Byte, 2 ≤ got.length →
    got.length + bs.length < (byteAt got 1).toNat + 4 → bs.foldlM receiveOne (s.assembling got) = some (s.assembling (got ++ bs)) := by
  induction bs with
  | nil =>
    intro got _ _
    rw [List.append_nil]
    rfl
  | cons b bs ih =>
    intro got h2 hlt
    rw [List.length_cons] at hlt
    have hbyte : byteAt (got ++ [b]) 1 = byteAt got 1 := by
      simp only [byteAt]
      rw [List.getD_append _ _ _ _ (by omega)]
    rw [List.foldlM_cons, receiveOne_plain hr (classify_inside h2 (by omega)), Option.bind_eq_bind, Option.bind_some,
      ih (got ++ [b]) (by simp; omega) (by rw [hbyte, List.length_append, List.length_singleton]; omega), List.append_assoc,
      List.singleton_append]

/-- R162: the first two bytes of a frame. -/
theorem receives_start {n : Nat} (hr : s.pins.reset = false) (hg : s.link.receiver = .hunting) (h2 : 2 ≤ n) (hn : n ≤ 242) (bs : List Byte) :
    (syncByte :: u8 n :: bs).foldlM receiveOne s = bs.foldlM receiveOne (s.assembling [syncByte, u8 n]) := by
  have hsync : receiveOne s syncByte = some (s.assembling [syncByte]) := by
    rw [receiveOne, byteReceived_hunting hr hg]
    rfl
  have hlen : (Receiver.receiving [syncByte]).classify (u8 n) = .plain :=
    (classify_length rfl).trans (if_pos (goodLength_iff.2 (by rw [u8_toNat (by omega)]; exact ⟨h2, hn⟩)))
  rw [List.foldlM_cons, hsync, Option.bind_eq_bind, Option.bind_some, List.foldlM_cons, receiveOne_plain hr hlen]
  rfl

/-- Settles O30: the frame is all but its last byte, and that byte is judged by `frameRoundTrip`. -/
theorem receiverAssemblesFrame : Obligations.ReceiverAssemblesFrame := by
  intro seq kind payload hp
  obtain ⟨hlen, hcheck⟩ := frameRoundTrip seq kind payload hp
  obtain ⟨lo, hi, hle⟩ : ∃ lo hi, le 2 (crc16 (u8 (payload.length + 2) :: seq :: kind :: payload)).toNat = [lo, hi] := ⟨_, _, rfl⟩
  have hframe : frameOf seq kind payload = (syncByte :: u8 (payload.length + 2) :: (seq :: kind :: payload ++ [lo])) ++ [hi] := by
    rw [frameOf, hle]
    simp
  refine ⟨_, hi, hframe, fun s hr hg => ⟨s.assembling _, ?_, rfl, ?_⟩⟩
  · refine (receives_start hr hg (by omega) (by omega) _).trans ((receives_inside hr _ _ (by simp) ?_).trans rfl)
    rw [show byteAt [syncByte, u8 (payload.length + 2)] 1 = u8 (payload.length + 2) from rfl, u8_toNat (by omega)]
    simp
    omega
  · show (Receiver.receiving _).classify hi = _
    rw [classify_last (by simp) (by
      rw [show byteAt (syncByte :: u8 (payload.length + 2) :: (seq :: kind :: payload ++ [lo])) 1 = u8 (payload.length + 2) from rfl,
        u8_toNat (by omega)]
      simp), ← hframe, hcheck]
    rfl

/-! ### The request path (R167) -/

theorem exec_requestFrame {f : Frame} (hr : s.pins.reset = false) (hb : s.link.receiver.classify b = .request f) :
    exec (.requestFrame b) s = .next { s with
      link := ({ s.link with receiver := .hunting, gap := none } : Link).accept f, reports := s.reports.endQuiet, raised := [] } := by
  refine happens_quiet _ _ _ hr ?_ rfl
  dsimp only
  rw [hb]
  rfl

/-- Settles O31. -/
theorem requestFrameAccepted : Obligations.RequestFrameAccepted := by
  intro s b f hr hb link s1
  rw [exec_requestFrame hr hb]
  refine ⟨fun h => ?_, fun r h hc => ?_, fun h hc hq => ?_, fun h hc hq => ?_⟩
  · rw [Link.accept, if_pos (by exact h)]
  · rw [Link.accept, if_neg (by rw [show link.holds f.seq = false from h]; simp), show link.cache.find? _ = some r from hc]
    rfl
  · rw [Link.accept, if_neg (by rw [show link.holds f.seq = false from h]; simp), show link.cache.find? _ = none from hc]
    dsimp only
    rw [if_pos (by exact hq)]
    rfl
  · rw [Link.accept, if_neg (by rw [show link.holds f.seq = false from h]; simp), show link.cache.find? _ = none from hc]
    dsimp only
    rw [if_neg (by exact Nat.not_le.2 hq)]

end Sys2Proof.Machine
end

section
/-! SUPPORT. The Report Queue and the transmitter (O32 to O36). -/

namespace Sys2Proof.Machine

variable {s : State} {b n : Byte} {q : ReportQueue} {e : Entry} {pre post : List Entry} {p : Entry → Bool}

/-! ### Entries found in their places -/

theorem find_between (hpre : ∀ x ∈ pre, p x = false) (he : p e = true) : (pre ++ e :: post).find? p = some e := by
  rw [List.find?_append, List.find?_eq_none.2 (by simpa using hpre), List.find?_cons_of_pos he]
  rfl

theorem changeFirst_between (f : Entry → Entry) (hpre : ∀ x ∈ pre, p x = false) (he : p e = true) :
    changeFirst p f (pre ++ e :: post) = pre ++ f e :: post := by
  induction pre with
  | nil => rw [List.nil_append, changeFirst, if_pos he]; rfl
  | cons a as ih =>
    rw [List.cons_append, changeFirst, if_neg (by simp [hpre a]), ih fun x hx => hpre x (by simp [hx])]
    rfl

theorem map_between {f : Entry → Entry} (h : ∀ x ∈ pre ++ post, f x = x) : (pre ++ e :: post).map f = pre ++ f e :: post := by
  rw [List.map_append, List.map_cons, List.map_congr_left (g := id) fun x hx => h x (by simp [hx]),
    List.map_congr_left (g := id) (l := post) fun x hx => h x (by simp [hx]), List.map_id, List.map_id]

/-! ### Submissions (R180) -/

/-- Settles O35. -/
theorem submissionPlaced : Obligations.SubmissionPlaced := by
  intro r x es
  refine ⟨fun h => ?_, ?_⟩
  · induction es with
    | nil => rfl
    | cons e es ih =>
      rw [placeEntry, if_neg (h e (by simp)), ih fun y hy => h y (by simp [hy])]
      rfl
  · rintro pre e post rfl hid hw hpre
    induction pre with
    | nil => exact if_pos ⟨hid, hw⟩
    | cons a as ih =>
      rw [List.cons_append, placeEntry, if_neg (hpre a (by simp)), ih fun y hy => hpre y (by simp [hy])]
      rfl

/-! ### Sending (R181, R182) -/

theorem start_quiet (h : q.quiet = true) : q.start = none := by
  rw [ReportQueue.start, if_pos h]

theorem isDue_false : e.isDue = false ↔ ¬ (e.inFlight = true ∧ e.due = true) := by
  simp [Entry.isDue]

theorem noneDue (h : ∀ x ∈ q.entries, ¬ (x.inFlight = true ∧ x.due = true)) : q.entries.find? (·.isDue) = none :=
  List.find?_eq_none.2 fun x hx => by rw [isDue_false.2 (h x hx)]; simp

/-- Settles O34: an entry due goes before a first send, and a first send takes the next sequence. -/
theorem reportChosenInOrder : Obligations.ReportChosenInOrder := by
  intro q pre e post hq
  refine ⟨start_quiet, fun n hn hf hdue hs hpre => ?_, fun hn hw hpre hnone hroom => ⟨q.nextSeq, ?_, fun hc => ?_, fun hc => ?_⟩,
    fun hnone hroom => ?_⟩
  · have hbefore : ∀ x ∈ pre, x.isDue = false := fun x hx => isDue_false.2 (hpre x hx)
    have he : e.isDue = true := by simp [Entry.isDue, hf, hdue]
    rw [ReportQueue.start, if_neg (by simp [hn]), hq, find_between hbefore he]
    dsimp only
    rw [changeFirst_between _ hbefore he, hs]
  · have hbefore : ∀ x ∈ pre, (!x.inFlight) = false := fun x hx => by simp [hpre x hx]
    have he : (!e.inFlight) = true := by simp [hw]
    rw [ReportQueue.start, if_neg (by simp [hn]), noneDue hnone]
    dsimp only
    rw [if_pos (by exact decide_eq_true hroom), hq, find_between (p := fun x => !x.inFlight) hbefore he]
    dsimp only
    rw [changeFirst_between _ hbefore he]
  · rw [ReportQueue.nextSeq, if_neg]
    simpa using hc
  · rw [ReportQueue.nextSeq, if_pos]
    simpa using hc
  · by_cases hn : q.quiet = true
    · exact start_quiet hn
    · rw [ReportQueue.start, if_neg hn, noneDue hnone]
      dsimp only
      rw [if_neg]
      rw [ReportQueue.hasRoom, decide_eq_true_eq]
      exact Nat.not_lt.2 hroom

/-- Settles O33. -/
theorem transmitterSends : Obligations.TransmitterSends := by
  intro s hr
  refine ⟨fun r rest ht hl => ?_, fun n f q ht hl hs => ?_, fun f r rest ht hl hre => ?_, fun n f pre e post ht hq hes hf hseq hdue hx => ?_⟩
  · refine happens_quiet _ _ _ hr ?_ rfl
    rw [State.startSending, show (State.link { s with raised := [] }).tx = _ from ht, show (State.link { s with raised := [] }).replies = _ from hl]
    rfl
  · refine happens_quiet _ _ _ hr ?_ rfl
    rw [State.startSending, show (State.link { s with raised := [] }).tx = _ from ht, show (State.link { s with raised := [] }).replies = _ from hl]
    dsimp only
    rw [hs]
    rfl
  · refine happens_quiet _ _ _ hr ?_ rfl
    rw [State.endSending, show (State.link { s with raised := [] }).tx = _ from ht]
    dsimp only
    rw [hl]
    dsimp only
    rw [if_neg (by simp [hre])]
    rfl
  · refine happens_quiet _ _ _ hr ?_ rfl
    rw [State.endSending, show (State.link { s with raised := [] }).tx = _ from ht]
    have hsent : s.reports.sent n = { s.reports with entries := pre ++ { e with timer := some 250 } :: post } := by
      rw [ReportQueue.sent, hes, map_between fun x hmem => if_neg fun h => hx x hmem ⟨h.1, h.2.1⟩, if_pos ⟨hf, hseq, hq, hdue⟩]
      rfl
    dsimp only [State.updReports, State.updLink]
    rw [hsent]

/-! ### Resends and acknowledgements (R184 to R187) -/

theorem expires_iff : e.expires n = true ↔ (e.inFlight = true ∧ e.seq = some n) ∧ e.timer.isSome = true := by
  simp [Entry.expires]

theorem resendTimerExpires : Claims.ResendTimerExpires := by
  intro s n pre e post hr hes hf hseq ht hpre
  have hbefore : ∀ x ∈ pre, x.expires n = false := fun x hx => by
    rw [← Bool.not_eq_true, expires_iff]
    exact fun h => hpre x hx h.1
  have he : e.expires n = true := expires_iff.2 ⟨⟨hf, hseq⟩, ht⟩
  have hfind : s.reports.entries.find? (·.expires n) = some e := by rw [hes, find_between hbefore he]
  refine ⟨fun hlt => ?_, fun hge => ?_⟩
  · refine happens_quiet _ _ _ hr ?_ rfl
    dsimp only [State.updReports]
    rw [ReportQueue.expire, hfind]
    dsimp only
    rw [if_pos (by exact hlt), hes, changeFirst_between _ hbefore he]
  · refine happens_quiet _ _ _ hr ?_ rfl
    dsimp only [State.updReports]
    rw [ReportQueue.expire, hfind]
    dsimp only
    rw [if_neg (by exact Nat.not_lt.2 hge)]

/-- R187: what the end of QUIET makes of the queue, whether or not it is QUIET. -/
theorem endQuiet_eq (q : ReportQueue) : q.endQuiet = { q with
    quiet := false
    entries := if q.quiet then q.entries.map fun e => if e.inFlight then { e with due := true, resends := 0 } else e else q.entries } := by
  rw [ReportQueue.endQuiet]
  split
  · rfl
  · rename_i h
    cases q
    simp_all

theorem ackRemovesReport : Claims.AckRemovesReport := by
  intro s b f hr hb woken s1
  refine ⟨fun n hn => ?_, fun hn => ?_⟩
  · refine happens_quiet _ _ _ hr ?_ rfl
    dsimp only
    rw [hb]
    dsimp only
    rw [State.takeAck, hn]
    dsimp only [State.goodFrame, State.updReports, State.updLink]
    rw [endQuiet_eq]
    rfl
  · refine happens_quiet _ _ _ hr ?_ rfl
    dsimp only
    rw [hb]
    dsimp only
    have hgood : State.takeAck { s with raised := [] } f = State.goodFrame { s with raised := [] } := by
      unfold State.takeAck
      split
      · rename_i h
        exact absurd (by rw [h]; rfl) hn
      · rfl
      · rfl
    rw [hgood, State.goodFrame, State.updReports, endQuiet_eq]
    rfl

/-- Settles O36. -/
theorem resendsAndAcks : Obligations.ResendsAndAcks := ⟨resendTimerExpires, ackRemovesReport⟩

/-! ### Break (R174, R188) -/

theorem breakEntries_waiting (ids : List ReportId) {ws : List Entry} (h : ∀ w ∈ ws, w.inFlight = false) : breakEntries ids ws = ws := by
  induction ws with
  | nil => rfl
  | cons w ws ih => rw [breakEntries, if_neg (by simp [h w]), ih fun x hx => h x (by simp [hx])]

theorem breakEntries_flying (ids : List ReportId) (he : e.inFlight = true) (es : List Entry) : breakEntries ids (e :: es)
    = (if e.id ∈ ids ∨ es.any (fun x => x.inFlight && x.id = e.id) then [] else [e.returned]) ++ breakEntries ids es := by
  rw [breakEntries, if_pos he]
  split <;> rfl

theorem waiting_flies {ws : List Entry} (h : ∀ w ∈ ws, w.inFlight = false) (r : ReportId) :
    ws.any (fun x => x.inFlight && decide (x.id = r)) = false :=
  List.any_eq_false.2 fun w hw => by simp [h w hw]

theorem breakReturnsReports : Claims.BreakReturnsReports := by
  intro q ws hws back rest
  have hwait : ws.filter (!·.inFlight) = ws := List.filter_eq_self.2 fun w hw => by simp [hws w hw]
  refine ⟨⟨rfl, rfl⟩, fun hq => ?_, fun a ha hq => ?_, fun a b ha hb hq => ?_⟩
  · show breakEntries _ q.entries = ws
    rw [hq, breakEntries_waiting _ hws]
  · show breakEntries _ q.entries = _
    rw [hq, List.filter_cons_of_neg (by simp [ha]), hwait, breakEntries_flying _ ha, breakEntries_waiting _ hws, waiting_flies hws]
    simp [rest, back, Entry.returned]
  · show breakEntries _ q.entries = _
    rw [hq, List.filter_cons_of_neg (by simp [ha]), List.filter_cons_of_neg (by simp [hb]), hwait, breakEntries_flying _ ha,
      breakEntries_flying _ hb, breakEntries_waiting _ hws, waiting_flies hws, List.any_cons, waiting_flies hws]
    by_cases hab : a.id = b.id
    · simp [rest, back, Entry.returned, hab, hb]
    · simp [rest, back, Entry.returned, hab, Ne.symm hab]

/-- Settles O32. -/
theorem breakActsOnLink : Obligations.BreakActsOnLink :=
  ⟨fun _ hr => happens_quiet _ _ _ hr rfl rfl, breakReturnsReports⟩

end Sys2Proof.Machine
end

section
/-! SUPPORT. ABORT, by the state of the job it meets (O41). -/

namespace Sys2Proof.Machine

variable {s u : State} {t : Target} {j k : Job} {c : Chan} {e : SourceEntry} {r : Request} {rest : List Request} {l : List ReportId}

/-! ### The request -/

/-- R22: the taken request is an ABORT of target `t`. -/
theorem exec_abort (h : s.MayTake r rest) (hs : s.store.startup = .ready) (hk : r.kind = 0x0A#8) (hp : r.payload = [targetCode t])
    (hf : (s.taken rest).abort r t = u) : ∃ f, exec .abort s = happensWantFirst f s ∧ f { s with raised := [] } = u :=
  ⟨_, rfl, (request_taken (kind := kAbort) h hk hs (payload_target hp).2).trans ((parsed_some (payload_target hp).1).trans hf)⟩

theorem abort_next (h : s.MayTake r rest) (hs : s.store.startup = .ready) (hk : r.kind = 0x0A#8)
    (hp : r.payload = [targetCode t]) (hf : (s.taken rest).abort r t = u) (hu : u.raised = []) : exec .abort s = .next u := by
  obtain ⟨f, he, hf'⟩ := exec_abort h hs hk hp hf
  rw [he, happensWantFirst]
  exact congrArg _ (event_quiet h.1 hf' hu)

theorem abort_reports (h : s.MayTake r rest) (hs : s.store.startup = .ready) (hk : r.kind = 0x0A#8) (hp : r.payload = [targetCode t])
    (hf : (s.taken rest).abort r t = { u with raised := l }) (hu : u.raised = []) (hj : u.job t = some j)
    (hl : ∀ x, x ∈ l ↔ x = .job t) : exec .abort s = .next (u.withJobReport t j) := by
  obtain ⟨f, he, hf'⟩ := exec_abort h hs hk hp hf
  rw [he]
  exact happensWantFirst_job h.1 hf' hu hj hl

/-! ### Jobs that are not in an attempt (R22, R24) -/

theorem abort_noJob (hj : s.job t = none) : s.abort r t = s.reply r .noJob [] := by
  rw [State.abort, hj]

theorem isFinal_cases {x : JobState} (h : x.isFinal = true) : x = .delivered ∨ x = .failed ∨ x = .aborted := by
  cases x <;> simp [JobState.isFinal] at h ⊢

theorem abort_final (hj : s.job t = some j) (hf : j.state.isFinal = true) : s.abort r t = s.reply r .noJob [] := by
  rw [State.abort, hj]
  dsimp only
  rcases isFinal_cases hf with h | h | h <;> rw [h]

/-- R22, R51: the job aborted. -/
def Job.aborted (j : Job) : Job := { j with state := .aborted, final := some .aborted, abortPending := false }

/-- R22: a job that waits leaves its queue, or its back-off timer is stopped. -/
theorem abort_waiting (hj : s.job t = some j) (hs : j.state = .queued ∨ j.state = .backoff) : s.abort r t
    = State.reply { s with
      queues := ⟨s.queues.a.filter (· ≠ t), s.queues.b.filter (· ≠ t)⟩
      jobs := s.jobs.set t { s.jobs.get t with backoff := none, job := some j.aborted }
      raised := .job t :: s.raised } r .ok [8#8] := by
  have hj' : (s.jobs.get t).job = some j := hj
  have hwait : s.abortWaiting t = { s with
      queues := ⟨s.queues.a.filter (· ≠ t), s.queues.b.filter (· ≠ t)⟩
      jobs := s.jobs.set t { s.jobs.get t with backoff := none, job := some j.aborted }
      raised := .job t :: s.raised } := by
    rw [State.abortWaiting, finishJob_eq (j := j) (by simpa [State.job, State.leaveQueues] using hj')]
    simp [State.leaveQueues, State.withJob, Job.aborted, PerChan.set, PerChan.get]
  rw [State.abort, hj]
  dsimp only
  rcases hs with hs | hs <;> rw [hs] <;> exact congrArg (State.reply · r .ok [8#8]) hwait

/-- R24: a job that drains is marked. -/
theorem abort_draining (hj : s.job t = some j) (hs : j.state = .draining) :
    s.abort r t = (s.withJob t { j with abortPending := true }).reply r .ok [5#8] := by
  have hmark : s.abortDraining t = s.withJob t { j with abortPending := true } := updJob_eq hj _
  rw [← hmark, State.abort, hj]
  dsimp only
  rw [hs]
  rfl

theorem abortByJobState : Claims.AbortByJobState := by
  intro s r rest t h hs hk hp
  refine ⟨fun hj => ?_, fun j hj hf => ?_, ?_, fun j hj hd => ?_⟩
  · exact abort_next h hs hk hp ((abort_noJob (s := s.taken rest) hj).trans (taken_reply ..)) rfl
  · exact abort_next h hs hk hp ((abort_final (s := s.taken rest) hj hf).trans (taken_reply ..)) rfl
  · intro j hj hw j1
    refine abort_reports h hs hk hp (l := [.job t]) ((abort_waiting (s := s.taken rest) hj hw).trans ?_) rfl (by simp [State.job, State.answered]) (by simp)
    rw [reply_eq]
    rfl
  · refine abort_next h hs hk hp ((abort_draining (s := s.taken rest) hj hd).trans ?_) rfl
    rw [reply_eq]
    rfl

/-! ### Running attempts (R23, R87, R120) -/

/-- R23, R87: the state in which a running attempt has been stopped by an ABORT, `host` saying whether it reads from HOST. -/
def State.attemptStopped (s : State) (c : Chan) (t : Target) (host : Bool) : State := { s with
  channels := s.channels.set c { s.channels.get c with
    claim := none, slots := (s.channels.get c).slots.map fun y => if y.isInFlight && !host then y else .free }
  lines := s.lines.set t { (s.lines.get t).assert with lane := .idle, block := none, ready := none, done := none }
  wanted := s.wanted.filter fun w => !decide (w.target = t) }

/-- R120: the WANT report of a cancellation, where there was a wanted block. -/
def State.wantRaised (s : State) (t : Target) : List ReportId := if s.wanted.any (·.target = t) then [.want t] else []

theorem attempt_stopped (hj : s.job t = some j) (he : j.entry = some e) : (s.assertLine t).clearAttempt c t
    = { s.attemptStopped c t (decide (e.port = .host)) with raised := s.wantRaised t ++ s.raised } := by
  have hhost : (s.assertLine t).readsHost t = decide (e.port = .host) := readsHost_eq (by exact hj) he
  rw [State.clearAttempt, hhost]
  dsimp only
  rw [cancelHost_eq]
  simp [State.attemptStopped, State.assertLine, State.updLine, State.updChannel, State.stopLane, TargetPort.stopLane, State.wantRaised,
    discard]

theorem abortRunning_drains (hj : s.job t = some j) (he : j.entry = some e) (hs : j.state ≠ .draining)
    (hd : (s.attemptStopped c t (decide (e.port = .host))).draining c = true) : s.abortRunning c t
      = { (s.attemptStopped c t (decide (e.port = .host))).withJob t { j with state := .draining, abortPending := true } with
        raised := [.job t, .job t] ++ (s.wantRaised t ++ s.raised) } := by
  rw [State.abortRunning, attempt_stopped hj he]
  dsimp only
  rw [if_pos (by exact hd), updJob_eq (j := j) (by exact hj), setJobState_new (withJob_job ..) (by exact hs), withJob_withJob]
  rfl

theorem abortRunning_aborts (hj : s.job t = some j) (he : j.entry = some e)
    (hd : (s.attemptStopped c t (decide (e.port = .host))).draining c = false) : s.abortRunning c t
      = { State.withJob { s.attemptStopped c t (decide (e.port = .host)) with
          channels := s.channels.set c ((s.attemptStopped c t (decide (e.port = .host))).channels.get c).left } t j.aborted with
        raised := .job t :: (s.wantRaised t ++ s.raised) } := by
  rw [State.abortRunning, attempt_stopped hj he]
  dsimp only
  rw [if_neg (by exact hd ▸ Bool.false_ne_true), abortJob_eq (j := j) (by exact hj)]
  simp [State.attemptStopped, State.withJob, Job.aborted]

theorem abort_running (hj : s.job t = some j) (hs : j.state = .probing ∨ j.state = .streaming ∨ j.state = .finishing)
    (hc : s.channelOf t = some c) (hu : s.abortRunning c t = u) (hk : u.job t = some k) :
    s.abort r t = u.reply r .ok [jobStateCode k.state] := by
  subst hu
  rw [State.abort, hj]
  dsimp only
  rcases hs with hs | hs | hs <;> rw [hs, hc] <;> dsimp only <;> rw [hk]

theorem stopped_draining (s : State) (c : Chan) (t : Target) (host : Bool) : (s.attemptStopped c t host).draining c
    = ((s.channels.get c).slots.any (·.isInFlight) && !host) := by
  have hkept : ∀ y : Slot, (if y.isInFlight && !host then y else .free : Slot).isInFlight = (y.isInFlight && !host) := by
    intro y
    cases h : y.isInFlight && !host
    · rfl
    · exact (Bool.and_eq_true_iff.1 h).1
  rw [State.draining, State.attemptStopped]
  simp only [PerChan.get_set_same, List.any_map, Function.comp_def, hkept]
  cases host <;> simp

section
variable (hj : s.job t = some j) (he : j.entry = some e)
  (hst : j.state = .probing ∨ j.state = .streaming ∨ j.state = .finishing) (hc : s.channelOf t = some c)
include hj he hst hc

/-- R23: with device reads in flight the job drains. -/
theorem abort_drains (hd : ((s.channels.get c).slots.any (·.isInFlight) && !decide (e.port = .host)) = true) :
    (s.taken rest).abort r t = { ((s.attemptStopped c t (decide (e.port = .host))).withJob t
      { j with state := .draining, abortPending := true }).answered r rest .ok [5#8] with
        raised := [.job t, .job t] ++ (s.wantRaised t ++ []) } := by
  have hne : j.state ≠ .draining := by rcases hst with h | h | h <;> simp [h]
  have hrun := abortRunning_drains (s := s.taken rest) (c := c) hj he hne ((stopped_draining ..).trans hd)
  exact (abort_running (s := s.taken rest) hj hst hc hrun (withJob_job ..)).trans (reply_eq ..)

/-- R23, R87: with none in flight the job is ABORTED. -/
theorem abort_aborts (hd : ((s.channels.get c).slots.any (·.isInFlight) && !decide (e.port = .host)) = false) :
    (s.taken rest).abort r t = { (State.withJob { s.attemptStopped c t (decide (e.port = .host)) with
      channels := s.channels.set c ((s.attemptStopped c t (decide (e.port = .host))).channels.get c).left } t j.aborted).answered
        r rest .ok [8#8] with raised := .job t :: (s.wantRaised t ++ []) } := by
  have hrun := abortRunning_aborts (s := s.taken rest) (c := c) hj he ((stopped_draining ..).trans hd)
  exact (abort_running (s := s.taken rest) hj hst hc hrun (withJob_job ..)).trans (reply_eq ..)

end

theorem wantRaised_none (hw : s.wanted.any (·.target = t) = false) : s.wantRaised t = [] := by
  rw [State.wantRaised, hw]
  rfl

theorem abortStopsAttempt : Claims.AbortStopsAttempt := by
  intro s r rest t c j e h hs hk hp hj hst hc he hport hw x line draining aborted
  have hhost : decide (e.port = .host) = false := decide_eq_false hport
  have hun : s.wanted.filter (fun w => !decide (w.target = t)) = s.wanted := cleared_unwanted (c := c) hw false
  refine ⟨fun hfly => ?_, fun hfly => ?_⟩
  · refine (abort_reports h hs hk hp (abort_drains hj he hst hc (by rw [hfly, hhost]; rfl)) rfl (withJob_job ..)
      (by simp [wantRaised_none hw])).trans ?_
    rw [hhost]
    simp [State.attemptStopped, hun, x, line, draining]
  · refine (abort_reports h hs hk hp (abort_aborts hj he hst hc (by rw [hfly]; rfl)) rfl (withJob_job ..)
      (by simp [wantRaised_none hw])).trans ?_
    rw [hhost]
    simp [State.attemptStopped, hun, x, line, aborted, Job.aborted]

theorem abortCancelsHost : Claims.AbortCancelsHost := by
  intro s r rest t c j e h hs hk hp hj hst hc he hport x line aborted u
  have hhost : decide (e.port = .host) = true := decide_eq_true hport
  have habort := abort_aborts (r := r) (rest := rest) hj he (hst.imp id .inl) hc (by rw [hhost, Bool.not_true, Bool.and_false])
  have hu : (State.withJob { s.attemptStopped c t (decide (e.port = .host)) with
      channels := s.channels.set c ((s.attemptStopped c t (decide (e.port = .host))).channels.get c).left } t j.aborted).answered
        r rest .ok [8#8] = u := by
    rw [hhost]
    simp [State.attemptStopped, u, x, line, aborted, Job.aborted, Channel.left]
  rw [hu] at habort
  refine ⟨fun hw => ?_, fun hw => ?_⟩
  · obtain ⟨f, hf, hfs⟩ := exec_abort h hs hk hp habort
    rw [hf]
    exact happensWantFirst_want_job h.1 hfs rfl (withJob_job ..) (by simp [State.wantRaised, hw, or_comm])
  · exact abort_reports h hs hk hp habort rfl (withJob_job ..) (by simp [wantRaised_none hw])

/-- Settles O41. -/
theorem abortEndsJob : Obligations.AbortEndsJob := ⟨abortByJobState, abortStopsAttempt, abortCancelsHost⟩

end Sys2Proof.Machine
end

section
/-! SUPPORT. The end of start-up and its auto-start jobs (O6). -/

namespace Sys2Proof.Machine

variable {s w x : State} {t u : Target} {ts us : List Target} {c : Chan}

/-! ### The start-up reads (R147) -/

theorem loadEnds_eq (h : s.store.startup = .loadingSetup) (data : Option (List Byte)) : s.loadEnds data
    = State.nextLoads (startupAddresses.drop (s.store.loads.length + 1))
      { s with store := { s.store with loads := s.store.loads ++ [data] } } := if_pos h

/-- R147: a read within the capacity is awaited. -/
theorem loadEnds_awaits (h : s.store.startup = .loadingSetup) (hl : s.store.loads.length < 3)
    (ha : ∀ a, [0, 1, 32, 33][s.store.loads.length + 1]? = some a → a < s.ports.flash0.capacity) (data : Option (List Byte)) :
    s.loadEnds data = { s with store := { s.store with loads := s.store.loads ++ [data] } } := by
  have hlen : s.store.loads.length + 1 < startupAddresses.length := by
    show _ < 4
    omega
  rw [loadEnds_eq h, List.drop_eq_getElem_cons hlen]
  exact if_pos (ha _ (List.getElem?_eq_getElem hlen))

theorem startupReadsAreKept : Claims.StartupReadsAreKept := by
  intro s data hr hs hl ha
  refine ⟨fun hd => ?_, ?_, ?_⟩
  · exact happens_quiet _ _ _ hr ((if_pos hd).trans (loadEnds_awaits (s := { s with raised := [] }) hs hl ha _)) rfl
  · exact happens_quiet _ _ _ hr (loadEnds_awaits (s := { s with raised := [] }) hs hl ha _) rfl
  · exact happens_quiet _ _ _ hr (loadEnds_awaits (s := { s with raised := [] }) hs hl ha _) rfl

/-! ### The auto-start jobs (R20) -/

/-- R20: whether a target starts by itself. -/
def State.auto (s : State) (t : Target) : Bool := (s.record t).present && (s.record t).autoStart

/-- The entry of a target in the Job Table after its START job has been created. -/
def State.startedSlot (s : State) (t : Target) : JobSlot :=
  { s.jobs.get t with job := some (s.createdJob t .start false none) }

/-- R14: the order of a wait queue: by class, and by target number within a class. -/
def State.Before (s : State) (a b : Target) : Prop :=
  (s.record a).cls < (s.record b).cls ∨ ((s.record a).cls = (s.record b).cls ∧ targetNum a < targetNum b)

/-- R20, R9, R14: `x` is reached from `w` by the creation of the START jobs of the auto-start targets among `ts`. -/
structure State.Started (w : State) (ts : List Target) (x : State) : Prop where
  frame : x = { w with jobs := x.jobs, queues := x.queues, lines := x.lines, raised := x.raised }
  jobs : ∀ u, x.jobs.get u = if u ∈ ts ∧ w.auto u = true then w.startedSlot u else w.jobs.get u
  lines : ∀ u, x.lines.get u = if u ∈ ts ∧ w.auto u = true then (w.lines.get u).assert else w.lines.get u
  queued : ∀ c u, u ∈ x.queues.get c
    ↔ (u ∈ ts ∧ w.auto u = true) ∧ w.effectiveSet u none ≠ [] ∧ w.settings.classMap (w.record u).cls = c
  ordered : ∀ c, (x.queues.get c).Pairwise w.Before
  raised : ∀ r, r ∈ x.raised ↔ r ∈ w.raised ∨ ∃ u, (u ∈ ts ∧ w.auto u = true) ∧ r = .job u

theorem started_nil (hq : w.queues = ⟨[], []⟩) : w.Started [] w where
  frame := rfl
  jobs := by simp
  lines := by simp
  queued := by intro c u; rw [hq]; cases c <;> simp [PerChan.get]
  ordered := by intro c; rw [hq]; cases c <;> simp [PerChan.get]
  raised := by simp

/-- R14: a target of a number above all that wait keeps the order of its queue. -/
theorem insertByClass_ordered {q : List Target} (hq : q.Pairwise w.Before) (hn : ∀ u ∈ q, targetNum u < targetNum t) :
    (insertByClass (fun u => (w.record u).cls) t q).Pairwise w.Before := by
  have hcls : q.Pairwise fun a b => (w.record a).cls ≤ (w.record b).cls :=
    hq.imp fun h => h.elim (fun h => h.le) fun h => h.1.le
  rw [(queueEntryByClass (fun u => (w.record u).cls) t q hcls).1]
  refine List.pairwise_append.2 ⟨hq.sublist List.filter_sublist, List.pairwise_cons.2 ⟨fun b hb => ?_, hq.sublist List.filter_sublist⟩,
    fun a ha b hb => ?_⟩
  · exact .inl (of_decide_eq_true (List.mem_filter.1 hb).2)
  · obtain ⟨hmem, hle⟩ := List.mem_filter.1 ha
    have hat := of_decide_eq_true hle
    rcases List.mem_cons.1 hb with rfl | hb
    · rcases lt_or_eq_of_le hat with h | h
      · exact .inl h
      · exact .inr ⟨h, hn a hmem⟩
    · exact .inl (lt_of_le_of_lt hat (of_decide_eq_true (List.mem_filter.1 hb).2))

/-- R20: the step for one target. -/
def State.autoStep (x : State) (t : Target) : State :=
  if (x.record t).present && (x.record t).autoStart then x.createJob t .start false none else x

namespace State.Started

variable (h : w.Started ts x)
include h

theorem record (u : Target) : x.record u = w.record u := (congrArg (fun z : State => z.record u) h.frame :)

theorem kept : x.store = w.store ∧ x.pins = w.pins ∧ x.link = w.link ∧ x.channels = w.channels ∧ x.ports = w.ports
    ∧ x.wanted = w.wanted ∧ x.pending = w.pending ∧ x.reports = w.reports := by
  rw [h.frame]
  exact ⟨rfl, rfl, rfl, rfl, rfl, rfl, rfl, rfl⟩

theorem effectiveSet (u : Target) : x.effectiveSet u none = w.effectiveSet u none :=
  (congrArg (fun z : State => z.effectiveSet u none) h.frame :)

theorem autoStep_skips (ha : w.auto t = false) : x.autoStep t = x := by
  rw [State.autoStep, h.record]
  exact if_neg (by simpa [State.auto] using ha)

/-- R20: the START job of a target not started before, whose condition is not LOADED. -/
theorem autoStep_creates (ht : t ∉ ts) (hc : (w.jobs.get t).condition ≠ .loaded) (ha : w.auto t = true) :
    x.autoStep t = { x with
      jobs := x.jobs.set t (w.startedSlot t)
      queues := if w.effectiveSet t none = [] then x.queues
        else x.queues.set (w.settings.classMap (w.record t).cls) (insertByClass (fun u => (w.record u).cls) t
          (x.queues.get (w.settings.classMap (w.record t).cls)))
      lines := x.lines.set t (w.lines.get t).assert
      raised := .job t :: x.raised } := by
  have hslot : x.jobs.get t = w.jobs.get t := (h.jobs t).trans (if_neg fun hx => ht hx.1)
  have hline : x.lines.get t = w.lines.get t := (h.lines t).trans (if_neg fun hx => ht hx.1)
  have hcreated : x.createdJob t .start false none = w.createdJob t .start false none := by
    rw [State.createdJob, State.createdJob, State.job, State.job, hslot, h.record, h.effectiveSet]
  have hset : x.settings = w.settings := (congrArg (fun z : State => z.settings) h.frame :)
  have hcond : ¬ (w.jobs.get t).condition = .loaded := hc
  rw [State.autoStep, h.record, if_pos (by simpa [State.auto] using ha), createJob_eq, hslot, hline, hcreated, h.effectiveSet, hset,
    if_neg hcond, funext h.record]
  simp only [List.isEmpty_iff]
  rfl

end State.Started

/-- R20: one more target keeps what the creation of the START jobs has made. -/
theorem started_step (h : w.Started ts x) (hn : ∀ u ∈ ts, targetNum u < targetNum t) (hc : (w.jobs.get t).condition ≠ .loaded) :
    w.Started (ts ++ [t]) (x.autoStep t) := by
  have ht : t ∉ ts := fun hm => lt_irrefl _ (hn t hm)
  have hmem : ∀ u, u ≠ t → (u ∈ ts ++ [t] ↔ u ∈ ts) := fun u hu => by simp [hu]
  cases ha : w.auto t with
  | false =>
    have key : ∀ u, (u ∈ ts ++ [t] ∧ w.auto u = true) ↔ (u ∈ ts ∧ w.auto u = true) := fun u => by
      by_cases hu : u = t
      · subst hu
        simp [ha]
      · rw [hmem u hu]
    rw [h.autoStep_skips ha]
    exact {
      frame := h.frame
      jobs := fun u => by simp only [key, h.jobs]
      lines := fun u => by simp only [key, h.lines]
      queued := fun c u => by simp only [key, h.queued]
      ordered := h.ordered
      raised := fun r => by simp only [key, h.raised] }
  | true =>
    have key : ∀ u, (u ∈ ts ++ [t] ∧ w.auto u = true) ↔ u = t ∨ (u ∈ ts ∧ w.auto u = true) := fun u => by
      by_cases hu : u = t
      · subst hu
        simp [ha]
      · simp [hu]
    rw [h.autoStep_creates ht hc ha]
    exact {
      frame := by
        conv_lhs => rw [h.frame]
      jobs := fun u => by
        by_cases hu : u = t
        · subst hu
          simp [ha]
        · simp [PerTarget.get_set_of_ne _ _ hu, hu, h.jobs]
      lines := fun u => by
        by_cases hu : u = t
        · subst hu
          simp [ha]
        · simp [PerTarget.get_set_of_ne _ _ hu, hu, h.lines]
      queued := fun c u => by
        have hold := h.queued c u
        rw [key]
        by_cases he : w.effectiveSet t none = []
        · rw [if_pos he, hold]
          refine and_congr_left fun hx => (or_iff_right ?_).symm
          rintro rfl
          exact hx.1 he
        · rw [if_neg he]
          by_cases hd : c = w.settings.classMap (w.record t).cls
          · subst hd
            rw [PerChan.get_set_same, (insertByClass_perm ..).mem_iff, List.mem_cons, hold, or_and_right]
            refine or_congr_left ⟨?_, And.left⟩
            rintro rfl
            exact ⟨rfl, he, rfl⟩
          · rw [PerChan.get_set_of_ne _ _ hd, hold]
            refine and_congr_left fun hx => (or_iff_right ?_).symm
            rintro rfl
            exact hd hx.2.symm
      ordered := fun c => by
        have hbefore : ∀ u ∈ x.queues.get c, targetNum u < targetNum t := fun u hu => hn u ((h.queued c u).1 hu).1.1
        by_cases he : w.effectiveSet t none = []
        · rw [if_pos he]
          exact h.ordered c
        · rw [if_neg he]
          by_cases hd : c = w.settings.classMap (w.record t).cls
          · subst hd
            rw [PerChan.get_set_same]
            exact insertByClass_ordered (h.ordered _) hbefore
          · rw [PerChan.get_set_of_ne _ _ hd]
            exact h.ordered c
      raised := fun r => by
        simp only [key, or_and_right, exists_or, List.mem_cons, h.raised, exists_eq_left]
        exact or_left_comm }

theorem started_fold (hc : ∀ t, (w.jobs.get t).condition ≠ .loaded) (us : List Target) : ∀ (ts : List Target) (x : State), w.Started ts x →
    (ts ++ us).Pairwise (fun a b => targetNum a < targetNum b) → w.Started (ts ++ us) (us.foldl State.autoStep x) := by
  induction us with
  | nil =>
    intro ts x h _
    rw [List.append_nil]
    exact h
  | cons t us ih =>
    intro ts x h hp
    rw [List.foldl_cons, List.append_cons]
    rw [List.append_cons] at hp
    refine ih _ _ (started_step h (fun u hu => ?_) (hc t)) hp
    exact (List.pairwise_append.1 (List.pairwise_append.1 hp).1).2.2 u hu t (by simp)

/-! ### Their reports (R178, R179) -/

theorem submit_jobOrNone (z : State) (t : Target) : z.submit (.job t) = match z.job t with
    | some j => z.withJobReport t j
    | none => z := by
  split
  · exact submit_job _ _ _ ‹_›
  · simp [State.submit, State.content, State.jobItems, *]

/-- R178: the JOB reports of the targets that `a` holds of, one after another. -/
theorem submit_jobs (a : Target → Bool) (J : Target → Option Job) (hJ : ∀ u, a u = false → J u = none) (us : List Target) :
    ∀ z : State, z.job = J → ((us.filter a).map ReportId.job).foldl State.submit z
      = us.foldl (fun (z : State) (u : Target) => match J u with
        | some j => z.withJobReport u j
        | none => z) z := by
  induction us with
  | nil => exact fun _ _ => rfl
  | cons u us ih =>
    intro z hz
    rw [List.foldl_cons]
    cases hu : a u with
    | false =>
      rw [List.filter_cons_of_neg (by simp [hu]), ih z hz, hJ u hu]
    | true =>
      rw [List.filter_cons_of_pos hu, List.map_cons, List.foldl_cons, ih _ (by rw [submit_eq]; exact hz), submit_jobOrNone, hz]

/-- R179: reports touch the Report Queue alone. -/
theorem submits_reports (rs : List ReportId) (z : State) : ∃ q, rs.foldl State.submit z = { z with reports := q } := by
  induction rs generalizing z with
  | nil => exact ⟨z.reports, rfl⟩
  | cons r rs ih =>
    obtain ⟨q, hq⟩ := ih (z.submit r)
    exact ⟨q, by rw [List.foldl_cons, hq, submit_eq]⟩

/-- R179: the event's order of a PART report and JOB reports. -/
theorem tableOrder_part_jobs (a : Target → Bool) {l : List ReportId} (hl : ∀ r, r ∈ l ↔ r = .part ∨ ∃ u, a u = true ∧ r = .job u) :
    tableOrder.filter (· ∈ l) = .part :: (allTargets.filter a).map .job := by
  have jobs : ∀ us : List Target, (us.map ReportId.job).filter (· ∈ l) = (us.filter a).map .job := fun us => by
    rw [List.filter_map]
    congr 1
    exact List.filter_congr fun u _ => by simp [hl]
  have wants : ∀ us : List Target, (us.map ReportId.want).filter (· ∈ l) = [] := fun us => by
    simp [List.filter_eq_nil_iff, hl]
  rw [tableOrder, List.filter_cons_of_pos (by simp [hl]), List.filter_append, jobs, wants, List.append_nil]

/-! ### The fourth read (R147, R149) -/

theorem judge_loads (x : SetupStore) (l : List (Option (List Byte))) :
    { ({ x with loads := l } : SetupStore).judge l with startup := .ready, loads := [] }
      = { x.judge l with startup := .ready, loads := [] } := by
  unfold SetupStore.judge SetupStore.choose
  dsimp only
  split
  · split <;> rfl
  · rfl
  · rfl
  · rfl

/-- R147, R149: the store at the end of start-up. -/
def SetupStore.loaded (x : SetupStore) (data : Option (List Byte)) : SetupStore :=
  { x.judge (x.loads ++ [data]) with startup := .ready, loads := [] }

/-- R149: the state in which the auto-start jobs are created. -/
def State.loaded (s : State) (data : Option (List Byte)) : State :=
  { s with store := s.store.loaded data, raised := [.part] }

theorem loadEnds_last (h : s.store.startup = .loadingSetup) (hl : s.store.loads.length = 3) (data : Option (List Byte)) :
    State.loadEnds { s with raised := [] } data = (s.loaded data).autoStart := by
  rw [loadEnds_eq (s := { s with raised := [] }) h, show s.store.loads.length = 3 from hl, show startupAddresses.drop (3 + 1) = [] from rfl,
    State.nextLoads, State.becomeReady, State.loaded, SetupStore.loaded, ← judge_loads]
  rfl

theorem autoStart_started (hj : s.jobs = .all .reset) (hq : s.queues = ⟨[], []⟩) : s.Started allTargets s.autoStart :=
  started_fold (fun t => by rw [hj, PerTarget.get_all]; decide) allTargets [] s (started_nil hq) (by decide)

/-- R149, R20: an event that acts as the fourth start-up read. -/
theorem happens_loaded {f : State → State} {data : Option (List Byte)} (hr : s.pins.reset = false)
    (hj : s.jobs = .all .reset) (hq : s.queues = ⟨[], []⟩) (hf : f { s with raised := [] } = (s.loaded data).autoStart) :
    ∃ x q, (s.loaded data).Started allTargets x
      ∧ happens f s = .next { x with reports := q, raised := [] }
      ∧ q = (allTargets.foldl (fun (z : State) (u : Target) => match x.job u with
          | some j => z.withJobReport u j
          | none => z) ({ x with reports := s.reports, raised := [] } : State).withPartReport).reports := by
  have hx := autoStart_started (s := s.loaded data) hj hq
  generalize (s.loaded data).autoStart = x at hf hx
  have hnone : ∀ u, (s.loaded data).auto u = false → x.job u = none := fun u hu => by
    rw [State.job, hx.jobs, if_neg (by simp [hu])]
    simp [State.loaded, hj, JobSlot.reset]
  have hrs := tableOrder_part_jobs (s.loaded data).auto (l := x.raised) fun r => by
    have hall : ∀ u : Target, u ∈ allTargets := by intro u; cases u <;> decide
    rw [hx.raised]
    simp [State.loaded, hall]
  obtain ⟨-, -, -, -, -, -, -, hreports⟩ := hx.kept
  have hx' : f { s with raised := [] } = { x with reports := s.reports } :=
    hf.trans (congrArg (fun r => ({ x with reports := r } : State)) hreports)
  have hexec := happens_reports (u := { x with reports := s.reports, raised := [] }) (l := x.raised) _ hr hx' rfl hrs
  obtain ⟨q, e⟩ := submits_reports (.part :: (allTargets.filter (s.loaded data).auto).map .job)
    { x with reports := s.reports, raised := [] }
  have hjobs := submit_jobs (s.loaded data).auto x.job hnone allTargets
    (({ x with reports := s.reports, raised := [] } : State).withPartReport) rfl
  exact ⟨x, q, hx, hexec.trans (congrArg _ e), (congrArg State.reports (hjobs.symm.trans e)).symm⟩

theorem fourthReadReachesReady : Claims.FourthReadReachesReady := by
  intro s data hr hs hl hj hq hd x hx y rec_ auto
  obtain ⟨f, hf, hexec⟩ : ∃ f, f { s with raised := [] } = (s.loaded x.2).autoStart ∧ exec x.1 s = happens f s := by
    simp only [List.mem_cons, List.not_mem_nil, or_false] at hx
    rcases hx with rfl | rfl | rfl
    · exact ⟨_, (if_pos hd).trans (loadEnds_last hs hl _), rfl⟩
    · exact ⟨_, loadEnds_last hs hl _, rfl⟩
    · exact ⟨_, loadEnds_last hs hl _, rfl⟩
  obtain ⟨z, q, hz, hnext, hrep⟩ := happens_loaded hr hj hq hf
  have hset : ∀ u, State.effectiveSet { z with reports := q, raised := [] } u none = (s.loaded x.2).effectiveSet u none :=
    hz.effectiveSet
  have hall : ∀ u : Target, u ∈ allTargets := by intro u; cases u <;> decide
  obtain ⟨hstore, hpins, hlink, hchannels, hports, hwanted, hpending, -⟩ := hz.kept
  refine ⟨_, hexec.trans hnext, hstore, hpins, hlink, hchannels, hports, hwanted, hpending, fun u hu => ?_, fun u hu => ?_,
    fun c u => ?_, hz.ordered, hrep⟩
  · exact ⟨(hz.jobs u).trans (if_neg fun h => absurd (hu.symm.trans h.2) (by simp)),
      (hz.lines u).trans (if_neg fun h => absurd (hu.symm.trans h.2) (by simp))⟩
  · have hjob : State.job z u = some ((s.loaded x.2).createdJob u .start false none) :=
      congrArg JobSlot.job ((hz.jobs u).trans (if_pos ⟨hall u, hu⟩))
    have hnew : (s.loaded x.2).job u = none := by simp [State.job, State.loaded, hj, JobSlot.reset]
    refine ⟨(hz.lines u).trans (if_pos ⟨hall u, hu⟩), _, hjob, rfl, rfl, rfl, rfl, ?_, (hset u).symm, fun h => ?_, fun h => ?_⟩
    · rw [State.createdJob, hnew]
      rfl
    · rw [hset] at h
      simp [State.createdJob, h]
    · rw [hset] at h
      simp [State.createdJob, h]
  · rw [hset]
    refine (hz.queued c u).trans ?_
    simp only [hall, true_and]
    rfl

/-- Settles O6, its two parts one after another. -/
theorem startupReadsEndInReady : Obligations.StartupReadsEndInReady := ⟨startupReadsAreKept, fourthReadReachesReady⟩

end Sys2Proof.Machine
end
